-- ==== Sys2Proof/Word.lean ====
section
/-! DEFINITION. The plain data words of the bridge: bytes and the 64-bit words of packets and control values (section 3.7). -/

namespace Sys2Proof

/-- One data byte of a packet or of a line. -/
abbrev Byte := BitVec 8

/-- One 64-bit word: a packet header word, a control value, a word of a record. -/
abbrev Word64 := BitVec 64

end Sys2Proof
end

