-- ==== Sys2Proof/Config.lean ====
section
/-! DEFINITION. What this implementation fixes: the sizes of its queues and windows, as BRIDGE_INFO reports them (R163).
The spec leaves no result value open, so there is no free value here (log entry 17). -/

namespace Sys2Proof.Config

/-- Requests an ingress queue holds (section 3.3, BRIDGE_INFO index 2). -/
def ingressDepth : Nat := 8

/-- Entries the Posted Write Queue holds (R72, BRIDGE_INFO index 4). -/
def pwqEntries : Nat := 16

/-- Entries the Read Tracker holds (R97, BRIDGE_INFO index 5). -/
def trackerEntries : Nat := 24

/-- Records the Error Log holds (R177, BRIDGE_INFO index 8). -/
def logRecords : Nat := 8

/-- Rows the sweep queue holds (R140, BRIDGE_INFO index 9). -/
def sweepRows : Nat := 4

/-- The most credits the bridge holds for X (R148). -/
def xCreditLimit : Nat := 8

/-- BRIDGE_INFO, index by index (R163). -/
def bridgeInfo : List Nat :=
  [1, 4, ingressDepth, 32, pwqEntries, trackerEntries, 8, 8, logRecords, sweepRows]

end Sys2Proof.Config
end

