-- ==== Sys2Proof/Syntax.lean ====
section
/-! DEFINITION. The commands: one constructor for each row of spec/opcode_table.json, with the operands that the event needs
from outside the bridge (which link, which packet, which timer). -/

namespace Sys2Proof

/-- The upstream ports (00_scope, "Port names"). -/
inductive Port where
  | u0 | u1 | u2 | u3
  deriving DecidableEq, Repr

/-- The six links. -/
inductive Link where
  | up (p : Port)
  | m
  | x
  deriving DecidableEq, Repr

/-- A packet as a link carries it: word 0, word 1 where there is one, then the data bytes in address order
(section 3.7). -/
structure Packet where
  word0 : Word64
  word1 : Option Word64 := none
  data  : List Byte := []
  deriving DecidableEq, Repr

/-- The 39 steps of the bridge. Each is one whole event. -/
inductive Instr where
  /-- COLD_RESET: RESET_N. -/
  | coldReset
  /-- PORT_LINK_READY: the link of an upstream port becomes ready. -/
  | portLinkReady (p : Port)
  /-- PORT_LINK_LOST: the link of an upstream port is lost. -/
  | portLinkLost (p : Port)
  /-- M_LINK_LOST. -/
  | mLinkLost
  /-- M_LINK_READY. -/
  | mLinkReady
  /-- X_LINK_LOST. -/
  | xLinkLost
  /-- X_LINK_READY. -/
  | xLinkReady
  /-- ARRIVAL: a packet arrives on an upstream link. -/
  | arrival (p : Port) (pkt : Packet)
  /-- PACKET_OUT_OF_PLACE: a packet of a kind its link does not carry toward the bridge. -/
  | packetOutOfPlace (l : Link) (pkt : Packet)
  /-- ADMISSION_ADVANCE: one advance of the port's head. -/
  | admissionAdvance (p : Port)
  /-- CREDIT_GRANT: one grant of an X credit. -/
  | creditGrant
  /-- ARBITRATION: one arbitration of the memory port. -/
  | arbitration
  /-- MEM_RESP: a response arrives from M. -/
  | memResp (pkt : Packet)
  /-- X_COMPLETION: a completion arrives from X. -/
  | xCompletion (pkt : Packet)
  /-- X_CREDIT: a CREDIT arrives from X. -/
  | xCredit (pkt : Packet)
  /-- SEAL_TIMER_EXPIRY: the seal timer of the OPEN entry expires. -/
  | sealTimerExpiry
  /-- PWQ_RESPONSE_TIMER_EXPIRY: the response timer of the entry in this slot expires. -/
  | pwqResponseTimerExpiry (slot : Fin 16)
  /-- RESPONSE_TIMER_EXPIRY: the response timer of the tracker entry with this index expires. -/
  | responseTimerExpiry (index : Fin 24)
  /-- SWEEP_RESPONSE_TIMER_EXPIRY: the response timer in this dtag's record expires. -/
  | sweepResponseTimerExpiry (dtag : Fin 8)
  /-- SWEEP_TIMER_EXPIRY. -/
  | sweepTimerExpiry
  /-- COMMIT: the Control Engine selects and serves a COMMIT. The rows below are its other services. -/
  | commit
  | stageFromActive
  | windowOpen
  | windowClose
  | windowLock
  | logPop
  | logClear
  | portDisable
  | portEnable
  | warmReset
  | regionStagedWrite
  | defaultTargetStagedWrite
  | windowWrite
  | portRightsWrite
  | favouredWrite
  | combineWindowWrite
  | sweepIntervalWrite
  | sweepRowsWrite
  /-- CTRL_WRITE_OBJECT: every control request that no row above names (log entry 8). -/
  | ctrlWriteObject
  deriving DecidableEq, Repr

end Sys2Proof
end

