-- ==== Sys2Proof/Machine/State.lean ====
section
/-! DEFINITION. The state of the bridge as plain data, block by block (00_scope, "The blocks"), and its cold-reset value. -/

namespace Sys2Proof.Machine

/-! ### One value for each upstream port -/

/-- One value for each of U0 to U3. -/
structure PerPort (α : Type) where
  u0 : α
  u1 : α
  u2 : α
  u3 : α
  deriving DecidableEq, Repr

/-- The value of one port. -/
def PerPort.get {α : Type} (x : PerPort α) : Port → α
  | .u0 => x.u0
  | .u1 => x.u1
  | .u2 => x.u2
  | .u3 => x.u3

/-- The value of one port replaced. -/
def PerPort.set {α : Type} (x : PerPort α) (p : Port) (v : α) : PerPort α :=
  match p with
  | .u0 => { x with u0 := v }
  | .u1 => { x with u1 := v }
  | .u2 => { x with u2 := v }
  | .u3 => { x with u3 := v }

/-- The same value for every port. -/
def PerPort.const {α : Type} (v : α) : PerPort α := ⟨v, v, v, v⟩

/-! ### Requests and classification -/

/-- Packet kinds of a requester (R35, R50); codes 0 and 7 to 15 are unknown kinds. -/
inductive ReqKind where
  | read | write | flush | ctrlRead | ctrlWrite | ctrlAction
  | unknown (code : BitVec 4)
  deriving DecidableEq, Repr

/-- A request as it arrived, its fields decoded by R50. A field that the kind does not have is 0. -/
structure Request where
  kind   : ReqKind
  priv   : Bool
  ack    : Bool
  tag    : BitVec 8
  /-- The length field: 0 to 127 as decoded, 1 to 64 when in range. -/
  length : Nat
  addr   : BitVec 40
  /-- Object code of CTRL_READ and CTRL_WRITE, action code of CTRL_ACTION. -/
  code   : Nat
  index  : Nat
  /-- Word 1: the value of CTRL_WRITE, the argument of CTRL_ACTION. -/
  word1  : Option Word64
  data   : List Byte
  deriving DecidableEq, Repr

/-- Target of a region entry (section 1.1). -/
inductive RegionTarget where
  | refuse | memory | extension
  deriving DecidableEq, Repr

/-- The two values of a default target (section 1.4). -/
inductive DefaultTarget where
  | refuse | extension
  deriving DecidableEq, Repr

/-- Region index of a classification result (R11). -/
inductive RegionIndex where
  | entry (i : Fin 32)
  | default
  | window
  deriving DecidableEq, Repr

/-- Target and translated address of a classification result (R11). -/
inductive Dest where
  | memory (a : BitVec 36)
  | extension (a : BitVec 40)
  deriving DecidableEq, Repr

/-- Access verdict (R10). -/
inductive Verdict where
  | permitted | refused | noTarget
  deriving DecidableEq, Repr

/-- Classification result with its access verdict (R10, R11) and whether the request was privileged at its
classification (R24, which R38 sends on X). -/
structure Classification where
  dest       : Option Dest
  region     : RegionIndex
  combine    : Bool
  generation : BitVec 8
  verdict    : Verdict
  privileged : Bool
  deriving DecidableEq, Repr

/-! ### Port blocks (chapters 3 and 4) -/

/-- The states of an upstream port (section 3.4). -/
inductive PortState where
  | down | up | disabled
  deriving DecidableEq, Repr

/-- Progress of a port's head (R51). -/
inductive Progress where
  | examine | waitEngine | waitBarrier | waitRoom | waitX | waitPwq
  deriving DecidableEq, Repr

/-- Rights and quota of a port (section 10.3). -/
structure Rights where
  management : Bool
  privilege  : Bool
  window     : Bool
  quota      : Nat
  deriving DecidableEq, Repr

/-- One port block (sections 3.3, 3.4, 4.1). The oldest request of `ingress` is the head; `progress` and `cls` are its head
record. -/
structure PortBlock where
  state       : PortState
  ingress     : List Request
  progress    : Progress
  cls         : Option Classification
  credits     : Nat
  owed        : Nat
  postedError : Bool
  rights      : Rights
  discarded   : Nat
  barrier     : Bool
  /-- The packets produced for this link since it became ready, in production order (R34, R36; log entry 5). -/
  out         : List Packet
  deriving DecidableEq, Repr

/-! ### Region Map and Window Controller (chapters 1 and 2) -/

/-- A region entry (section 1.1). -/
structure RegionEntry where
  valid   : Bool
  base    : BitVec 28
  limit   : BitVec 28
  target  : RegionTarget
  read    : PerPort Bool
  write   : PerPort Bool
  combine : Bool
  /-- Signed page offset, as the 29-bit two's complement field of the rights word. -/
  offset  : BitVec 29
  deriving DecidableEq, Repr

/-- A Region Table with its default target (sections 1.1, 1.4). -/
structure RegionTable where
  entries : Vector RegionEntry 32
  default : DefaultTarget
  deriving DecidableEq, Repr

/-- The Region Map (chapter 1). -/
structure RegionMap where
  staged     : RegionTable
  active     : RegionTable
  generation : BitVec 8
  deriving DecidableEq, Repr

/-- The window descriptor (section 2.1). -/
structure WindowDesc where
  base    : BitVec 28
  size    : Nat
  memBase : BitVec 24
  deriving DecidableEq, Repr

/-- The window states (section 2.4). -/
inductive WindowState where
  | closed | opened | locked
  deriving DecidableEq, Repr

/-- The Window Controller (chapter 2). -/
structure WindowCtl where
  desc  : WindowDesc
  state : WindowState
  deriving DecidableEq, Repr

/-! ### Posted Write Queue (chapter 5) -/

/-- The 64 bytes of a line, each with its mask flag: `some b` where the flag is set and the byte is `b`, `none` where
the flag is clear (R71). -/
abbrev LineImage := List (Option Byte)

/-- States of a PWQ entry with what it holds only in that state (R71): the running seal timer while OPEN (in units of 100 ns),
the dtag and the running response timer (in µs) while ISSUED. A timer holds the length it started with (log entry 3). -/
inductive PwqState where
  | openFor (timer : Nat)
  | sealed
  | issued (dtag : Fin 8) (timer : Nat)
  deriving DecidableEq, Repr

/-- One entry of the Posted Write Queue (R71). -/
structure PwqEntry where
  slot         : Fin 16
  line         : BitVec 30
  bytes        : LineImage
  contributors : PerPort Bool
  /-- Indices of the ACK_WRITE tracker entries whose completion waits for this entry, in the order they joined. -/
  owed         : List (Fin 24)
  combine      : Bool
  region       : RegionIndex
  generation   : BitVec 8
  state        : PwqState
  /-- When the append was taken, for R72's "older" (log entry 11). -/
  stamp        : Nat
  deriving DecidableEq, Repr

/-- The Posted Write Queue with its settings (R78, R81). -/
structure Pwq where
  entries       : List PwqEntry
  watermark     : Nat
  combineWindow : Nat
  deriving DecidableEq, Repr

/-! ### Read Tracker (chapter 6) -/

/-- Kind and target of a tracker entry, with the fields that R95 gives that kind. -/
inductive TrackWork where
  | readM (addr : BitVec 36) (length : Nat) (region : RegionIndex) (generation : BitVec 8)
  | readX (addr : BitVec 40) (length : Nat) (region : RegionIndex) (generation : BitVec 8)
  | ackM (owedSlot : Fin 16)
  | ackX (addr : BitVec 40) (region : RegionIndex) (generation : BitVec 8)
  | flush (awaited : List (Fin 16))
  deriving DecidableEq, Repr

/-- States of a tracker entry (section 6.2), with the held slot, and the downstream tag, epoch and running response timer. -/
inductive TrackState where
  | held (slot : Fin 16)
  | ready
  | issued (tag : Fin 8) (epoch : Bool) (timer : Nat)
  | waiting
  deriving DecidableEq, Repr

/-- One entry of the Read Tracker (R95). -/
structure TrackerEntry where
  index  : Fin 24
  port   : Port
  tag    : BitVec 8
  work   : TrackWork
  state  : TrackState
  orphan : Bool
  /-- When the entry was made, for R72's "older" (log entry 11). -/
  stamp  : Nat
  deriving DecidableEq, Repr

/-- The Read Tracker: its entries in creation order (R96), and its timeouts in µs (R103). -/
structure Tracker where
  entries  : List TrackerEntry
  timeoutM : Nat
  timeoutX : Nat
  deriving DecidableEq, Repr

/-! ### Memory Port Scheduler (chapter 7) -/

/-- The states of the M and X links (section 3.6). -/
inductive LinkState where
  | down | up
  deriving DecidableEq, Repr

/-- The record of one dtag (R118): free, allocated to a MEM_READ (its tracker entry and length), a MEM_WRITE (its PWQ slot) or a
MEM_SWEEP (its row and running response timer), or stale-reserved. -/
inductive DtagState where
  | free
  | read (index : Fin 24) (length : Nat)
  | write (slot : Fin 16)
  | sweep (row : BitVec 20) (timer : Nat)
  | stale
  deriving DecidableEq, Repr

/-- The members of the rotation (R128). -/
inductive Party where
  | port (p : Port)
  | pwq
  deriving DecidableEq, Repr

/-- The Memory Port Scheduler, its M window and settings, the late count of that window (R107) and the packets produced for M
since its link became ready. -/
structure Scheduler where
  link        : LinkState
  epoch       : Bool
  dtags       : Vector DtagState 8
  slotCounter : Nat
  /-- The remaining budget of an active hold (R127). -/
  hold        : Option Nat
  rotation    : Party
  favoured    : Option Port
  holdBudget  : Nat
  late        : Nat
  out         : List Packet
  deriving DecidableEq, Repr

/-! ### Sweep Generator (chapter 8) -/

/-- The Sweep Generator. `timer` is the period in progress, in µs, as it started (R137). -/
structure SweepGen where
  timer     : Option Nat
  interval  : Nat
  rows      : Nat
  row       : Nat
  queue     : List (BitVec 20)
  corrected : Nat
  deriving DecidableEq, Repr

/-! ### Extension Forwarder (chapter 9) -/

/-- The state of one xtag (R151). -/
inductive XtagState where
  | free
  | allocated (index : Fin 24)
  | stale
  deriving DecidableEq, Repr

/-- The Extension Forwarder, the late count of its window (R107) and the packets produced for X since its link became
ready. -/
structure Extension where
  link     : LinkState
  epoch    : Bool
  xtags    : Vector XtagState 8
  credits  : Nat
  rotation : Port
  late     : Nat
  out      : List Packet
  deriving DecidableEq, Repr

/-! ### Error Log and Notice (chapter 11) -/

/-- Record kinds (section 11.2). -/
inductive RecordKind where
  | malformed | dupTag | overrun | writeRefused | writeTargetDown | writeFailed | writeTimeout | readFailed | readTimeout
  | unknownResponse | sweepOverrun | sweepUncorrectable | sweepFailed | sweepTimeout | pwqDiscard | warmResetDiscard
  | linkLost | windowChange
  deriving DecidableEq, Repr

/-- The address of a record with its address kind (R175). -/
inductive RecordAddr where
  | bridge (a : BitVec 40)
  | memory (a : BitVec 36)
  | line (a : BitVec 30)
  | extension (a : BitVec 40)
  | row (r : BitVec 20)
  deriving DecidableEq, Repr

/-- Target named by a record (R175). -/
inductive RecordTarget where
  | m | x
  deriving DecidableEq, Repr

/-- An error record as its producer makes it (R175); an absent field is `none`. -/
structure ErrorRecord where
  kind         : RecordKind
  port         : Option Port := none
  tag          : Option (BitVec 8) := none
  addr         : Option RecordAddr := none
  target       : Option RecordTarget := none
  region       : Option (RegionIndex × BitVec 8) := none
  count        : Option Nat := none
  contributors : Option (PerPort Bool) := none
  deriving DecidableEq, Repr

/-- A stored record with its sequence number (R177). -/
structure LogEntry where
  sequence : BitVec 16
  record   : ErrorRecord
  deriving DecidableEq, Repr

/-- The Error Log and Notice block (chapter 11). -/
structure ErrorLog where
  records      : List LogEntry
  overflow     : Nat
  sequence     : BitVec 16
  noticePort   : Port
  noticeEnable : Bool
  deriving DecidableEq, Repr

/-! ### The whole state -/

/-- The whole state of the bridge, and the commands that wait. -/
structure State where
  /-- The commands that wait, the next one first (log entry 1). -/
  pending   : List Instr
  ports     : PerPort PortBlock
  regionMap : RegionMap
  window    : WindowCtl
  pwq       : Pwq
  tracker   : Tracker
  sched     : Scheduler
  sweep     : SweepGen
  ext       : Extension
  /-- The Control Engine's rotation pointer (R159). -/
  engine    : Port
  log       : ErrorLog
  /-- The model's counter of appends and admissions (log entry 11). -/
  stamp     : Nat
  deriving DecidableEq, Repr

/-- Why a step stops with a fault: never. The spec gives the bridge no stop; every failure is a completion, a flag, a record
or a count (section 11.7; log entry 18). -/
inductive Fault where
  deriving DecidableEq, Repr

/-- Why a command is not carried out. -/
inductive Refusal where
  /-- Raised by a dispatch arm whose command has no meaning yet (no arm is left so). Safe: the machine stops. -/
  | notModelled (mnemonic : String)
  deriving DecidableEq, Repr

/-! ### Cold reset values -/

/-- A port block after a cold reset but for its rights (R47). -/
def PortBlock.reset (rights : Rights) : PortBlock where
  state := .down
  ingress := []
  progress := .examine
  cls := none
  credits := 0
  owed := 0
  postedError := false
  rights := rights
  discarded := 0
  barrier := false
  out := []

/-- A region entry after a cold reset (R19). -/
def RegionEntry.reset : RegionEntry where
  valid := false
  base := 0
  limit := 0
  target := .refuse
  read := .const false
  write := .const false
  combine := false
  offset := 0

/-- A Region Table after a cold reset (R19). -/
def RegionTable.reset : RegionTable where
  entries := Vector.replicate 32 RegionEntry.reset
  default := .refuse

/-- The machine right after a cold reset (R19, R33, R47, R78, R81, R94, R117, R136, R147, R158, R174, R184). -/
def State.reset : State where
  pending := []
  ports :=
    { u0 := PortBlock.reset ⟨true, true, true, 4⟩
      u1 := PortBlock.reset ⟨false, false, false, 4⟩
      u2 := PortBlock.reset ⟨false, false, false, 4⟩
      u3 := PortBlock.reset ⟨false, false, false, 4⟩ }
  regionMap := { staged := RegionTable.reset, active := RegionTable.reset, generation := 0 }
  window := { desc := { base := 0, size := 0, memBase := 0 }, state := .closed }
  pwq := { entries := [], watermark := 12, combineWindow := 10 }
  tracker := { entries := [], timeoutM := 200, timeoutX := 2000 }
  sched :=
    { link := .down, epoch := false, dtags := Vector.replicate 8 .free, slotCounter := 0, hold := none
      rotation := .port .u0, favoured := none, holdBudget := 4, late := 0, out := [] }
  sweep := { timer := none, interval := 0, rows := 1, row := 0, queue := [], corrected := 0 }
  ext :=
    { link := .down, epoch := false, xtags := Vector.replicate 8 .free, credits := 0, rotation := .u0, late := 0, out := [] }
  engine := .u0
  log := { records := [], overflow := 0, sequence := 0, noticePort := .u0, noticeEnable := false }
  stamp := 0

end Sys2Proof.Machine
end

