-- ==== Sys2Proof/Decode.lean ====
section
/-! DEFINITION. The bit fields of packet words (R50), and the host's decoder of table words. spec/opcode_table.json gives no
row any bits, so no word spells a command. -/

namespace Sys2Proof

/-- The `n` bits of a word from bit `lo` up (section 3.7: bit 0 is the least significant). -/
def Word64.field (w : Word64) (lo n : Nat) : BitVec n := w.extractLsb' lo n

/-- A field's bits put at bit `lo` of a word, every other bit 0. -/
def Word64.place {n : Nat} (lo : Nat) (x : BitVec n) : Word64 := (x.setWidth 64) <<< lo

/-- Bits 0 to 3 of word 0: the kind code of every packet (section 3.7). -/
def Packet.kindCode (pkt : Packet) : Nat := (Word64.field pkt.word0 0 4).toNat

/-- The command a table word spells: the table gives no row any bits, so there is none (log entry 20). -/
def decodeTableWord (_nbits _w : Nat) : Option Instr := none

end Sys2Proof
end

