-- ==== Sys2Proof/WellFormed.lean ====
section
/-! DEFINITION. Which command terms name the event of their row: the packet they carry is of the row's kind (R35 to R39, R50).
A term that fails the check still has a meaning: the packet has the effect the spec gives that packet (log entry 6). -/

namespace Sys2Proof

/-- A packet that an upstream link delivers as a request: any kind but COMPLETION (8) and CREDIT (9), which R39 discards
(log entry 7). -/
def Packet.isRequest (pkt : Packet) : Bool := pkt.kindCode != 8 && pkt.kindCode != 9

/-- A packet of the one kind that M sends (R37). -/
def Packet.isMemResp (pkt : Packet) : Bool := pkt.kindCode == 4

/-- A COMPLETION from X (R38). -/
def Packet.isCompletion (pkt : Packet) : Bool := pkt.kindCode == 8

/-- A CREDIT from X (R38). -/
def Packet.isCredit (pkt : Packet) : Bool := pkt.kindCode == 9

/-- The packets a link carries toward the bridge (R35, R37, R38, R39). -/
def Link.carries (l : Link) (pkt : Packet) : Bool :=
  match l with
  | .up _ => pkt.isRequest
  | .m => pkt.isMemResp
  | .x => pkt.isCompletion || pkt.isCredit

/-- The command's packet is of its row's kind. -/
def Instr.wellFormed (i : Instr) : Bool :=
  match i with
  | .arrival _ pkt => pkt.isRequest
  | .packetOutOfPlace l pkt => !l.carries pkt
  | .memResp pkt => pkt.isMemResp
  | .xCompletion pkt => pkt.isCompletion
  | .xCredit pkt => pkt.isCredit
  | .coldReset | .portLinkReady _ | .portLinkLost _ | .mLinkLost | .mLinkReady | .xLinkLost | .xLinkReady
  | .admissionAdvance _ | .creditGrant | .arbitration | .sealTimerExpiry | .pwqResponseTimerExpiry _
  | .responseTimerExpiry _ | .sweepResponseTimerExpiry _ | .sweepTimerExpiry | .commit | .stageFromActive
  | .windowOpen | .windowClose | .windowLock | .logPop | .logClear | .portDisable | .portEnable | .warmReset
  | .regionStagedWrite | .defaultTargetStagedWrite | .windowWrite | .portRightsWrite | .favouredWrite
  | .combineWindowWrite | .sweepIntervalWrite | .sweepRowsWrite | .ctrlWriteObject => true

end Sys2Proof
end

