-- ==== Sys2Proof/Machine/Operands.lean ====
section
/-! DEFINITION. Packet, word and record formats (section 3.7, R50): what the bridge reads from the packets and values it
receives, and the words of the packets, values and records it sends. -/

namespace Sys2Proof

/-! ### Ports -/

/-- The number of a port. -/
def Port.code : Port → Nat
  | .u0 => 0
  | .u1 => 1
  | .u2 => 2
  | .u3 => 3

/-- The port a number names. -/
def Port.ofCode : Nat → Option Port
  | 0 => some .u0
  | 1 => some .u1
  | 2 => some .u2
  | 3 => some .u3
  | _ => none

/-- The port after this one, U0 after U3 (R150, R159). -/
def Port.next : Port → Port
  | .u0 => .u1
  | .u1 => .u2
  | .u2 => .u3
  | .u3 => .u0

/-- The four ports in order, starting at this one and wrapping from U3 to U0 (R150, R159). -/
def Port.fromHere (p : Port) : List Port := [p, p.next, p.next.next, p.next.next.next]

namespace Machine

open Sys2Proof.Word64 (field place)

/-- A flag as one bit. -/
def bit (b : Bool) : BitVec 1 := BitVec.ofBool b

/-- One bit of a word as a flag. -/
def flagAt (w : Word64) (i : Nat) : Bool := w.getLsbD i

/-- Four flags in the order U0 to U3, U0 at the lowest bit. -/
def portFlags (x : PerPort Bool) : BitVec 4 := bit x.u3 ++ bit x.u2 ++ bit x.u1 ++ bit x.u0

/-- Four flags read from a word, U0 at bit `lo`. -/
def portFlagsAt (w : Word64) (lo : Nat) : PerPort Bool :=
  { u0 := flagAt w lo, u1 := flagAt w (lo + 1), u2 := flagAt w (lo + 2), u3 := flagAt w (lo + 3) }

/-! ### Upstream requests -/

/-- The kind a kind code names (section 3.7, "Upstream requests"). -/
def ReqKind.ofCode (c : BitVec 4) : ReqKind :=
  match c.toNat with
  | 1 => .read
  | 2 => .write
  | 3 => .flush
  | 4 => .ctrlRead
  | 5 => .ctrlWrite
  | 6 => .ctrlAction
  | _ => .unknown c

/-- READ or WRITE: the kinds with an address, a length and the PRIV flag. -/
def ReqKind.isAccess : ReqKind → Bool
  | .read | .write => true
  | _ => false

/-- A control kind. -/
def ReqKind.isControl : ReqKind → Bool
  | .ctrlRead | .ctrlWrite | .ctrlAction => true
  | _ => false

/-- The request a packet carries: each field from its bits, every bit the kind does not use ignored (R50). -/
def Request.ofPacket (pkt : Packet) : Request :=
  let w := pkt.word0
  let k := ReqKind.ofCode (field w 0 4)
  { kind := k
    priv := k.isAccess && flagAt w 4
    ack := k == .write && flagAt w 5
    tag := field w 8 8
    length := if k.isAccess then (field w 16 7).toNat else 0
    addr := if k.isAccess then field w 24 40 else 0
    code := if k.isControl then (field w 16 16).toNat else 0
    index := if k == .ctrlRead || k == .ctrlWrite then (field w 32 16).toNat else 0
    word1 := pkt.word1
    data := pkt.data }

/-- A posted write: a WRITE without ACK, well-formed or not (R35, R55). -/
def Request.posted (r : Request) : Bool := r.kind == .write && !r.ack

/-- READ, ACK write or FLUSH: the kinds that take a tracker entry or complete as one (R58, R59). -/
def Request.needsRoom (r : Request) : Bool :=
  r.kind == .read || (r.kind == .write && r.ack) || r.kind == .flush

/-- R54, row by row. -/
def Request.malformed (r : Request) : Bool :=
  (match r.kind with | .unknown _ => true | _ => false)
    || (!r.posted && decide (15 < r.tag.toNat))
    || (r.kind.isAccess && (r.length == 0 || decide (64 < r.length)))
    || (r.kind.isAccess && decide (64 < r.addr.toNat % 64 + r.length))
    || (r.kind == .write && r.data.length != r.length)
    || (r.kind != .write && !r.data.isEmpty)
    || ((r.kind == .ctrlWrite || r.kind == .ctrlAction) && r.word1.isNone)
    || ((r.kind.isAccess || r.kind == .flush || r.kind == .ctrlRead) && r.word1.isSome)

/-- The value of a CTRL_WRITE or the argument of a CTRL_ACTION. -/
def Request.value (r : Request) : Word64 := r.word1.getD 0

/-- The page of a bridge address: the address with its low 12 bits dropped (00_scope). -/
def pageOf (a : BitVec 40) : BitVec 28 := a.extractLsb' 12 28

/-- The line of a memory address: the address with its low 6 bits dropped (00_scope). -/
def lineOf (a : BitVec 36) : BitVec 30 := a.extractLsb' 6 30

/-- The place in its line of the byte at a memory address. -/
def lineOffset (a : BitVec 36) : Nat := (a.extractLsb' 0 6).toNat

/-! ### Line images (R71, R73, R87, R88) -/

/-- The bytes of a write at their places in the line. -/
def LineImage.ofWrite (offset : Nat) (data : List Byte) : LineImage :=
  (List.range 64).map fun i => if offset ≤ i then data[i - offset]? else none

/-- The line after a write is stored over it: the write's bytes replace, the others stay (R73). -/
def LineImage.merge (new old : LineImage) : LineImage := List.zipWith Option.or new old

/-- Every mask flag is set. -/
def LineImage.full (l : LineImage) : Bool := l.all Option.isSome

/-- Every one of `length` bytes from `offset` has its mask flag set (R87). -/
def LineImage.covers (l : LineImage) (offset length : Nat) : Bool :=
  ((l.drop offset).take length).all Option.isSome && decide (offset + length ≤ l.length)

/-- The bytes of the line, 0 where the mask flag is clear (R80). -/
def LineImage.data (l : LineImage) : List Byte := l.map fun b => b.getD 0

/-- `length` bytes from `offset` (R88). -/
def LineImage.read (l : LineImage) (offset length : Nat) : List Byte := ((LineImage.data l).drop offset).take length

/-- The 64 mask flags, bit i for byte i (section 3.7, "M link"). -/
def LineImage.mask (l : LineImage) : Word64 :=
  l.foldr (fun b m => (m <<< 1) ||| (if b.isSome then 1 else 0)) 0

/-! ### Completions, credits and notices -/

/-- Completion statuses (00_scope; codes in section 3.7). -/
inductive Status where
  | ok | refused | noTarget | targetDown | targetError | timeout | malformed | aborted | state | invalid
  deriving DecidableEq, Repr

/-- Status codes (section 3.7). -/
def Status.code : Status → BitVec 4
  | .ok => 0
  | .refused => 1
  | .noTarget => 2
  | .targetDown => 3
  | .targetError => 4
  | .timeout => 5
  | .malformed => 6
  | .aborted => 7
  | .state => 8
  | .invalid => 9

/-- A COMPLETION to a requester (R36, section 3.7). -/
def completionPacket (tag : BitVec 8) (st : Status) (value : Option Word64) (data : List Byte) : Packet where
  word0 :=
    place 0 (8#4) ||| place 8 tag ||| place 16 st.code ||| place 24 (BitVec.ofNat 7 data.length)
      ||| place 31 (bit value.isSome)
  word1 := value
  data := data

/-- A CREDIT to a requester (R36, section 3.7). -/
def creditPacket (count : Nat) : Packet where
  word0 := place 0 (9#4) ||| place 16 (BitVec.ofNat 4 count)

/-- Record kind codes (section 3.7, "Error record"). -/
def RecordKind.code : RecordKind → BitVec 5
  | .malformed => 1
  | .dupTag => 2
  | .overrun => 3
  | .writeRefused => 4
  | .writeTargetDown => 5
  | .writeFailed => 6
  | .writeTimeout => 7
  | .readFailed => 8
  | .readTimeout => 9
  | .unknownResponse => 10
  | .sweepOverrun => 11
  | .sweepUncorrectable => 12
  | .sweepFailed => 13
  | .sweepTimeout => 14
  | .pwqDiscard => 15
  | .warmResetDiscard => 16
  | .linkLost => 17
  | .windowChange => 18

/-- The port field of a record or NOTICE: the port's number, or 7 when there is none (R176, R181). -/
def portField (p : Option Port) : BitVec 3 :=
  match p with
  | some q => BitVec.ofNat 3 (q.code)
  | none => 7

/-- A NOTICE (R181, section 3.7). -/
def noticePacket (sequence : BitVec 16) (kind : RecordKind) (port : Option Port) : Packet where
  word0 := place 0 (10#4) ||| place 16 sequence ||| place 32 kind.code ||| place 40 (portField port)

/-! ### Packets on M -/

/-- A MEM_READ (R37, section 3.7). -/
def memReadPacket (dtag : Fin 8) (epoch : Bool) (addr : BitVec 36) (length : Nat) : Packet where
  word0 :=
    place 0 (1#4) ||| place 8 (BitVec.ofFin dtag : BitVec 3) ||| place 11 (bit epoch) ||| place 16 (BitVec.ofNat 7 length)
      ||| place 28 addr

/-- A MEM_WRITE: the mask in word 1, then the 64 bytes (R37, R80, section 3.7). -/
def memWritePacket (dtag : Fin 8) (epoch : Bool) (line : BitVec 30) (bytes : LineImage) : Packet where
  word0 :=
    place 0 (2#4) ||| place 8 (BitVec.ofFin dtag : BitVec 3) ||| place 11 (bit epoch) ||| place 28 (line ++ 0#6)
  word1 := some (LineImage.mask bytes)
  data := LineImage.data bytes

/-- A MEM_SWEEP (R37, section 3.7). -/
def memSweepPacket (dtag : Fin 8) (epoch : Bool) (row : BitVec 20) : Packet where
  word0 := place 0 (3#4) ||| place 8 (BitVec.ofFin dtag : BitVec 3) ||| place 11 (bit epoch) ||| place 16 row

/-- Results of a MEM_RESP (R37). -/
inductive MemResult where
  | good | corrected | uncorrectable | failed
  deriving DecidableEq, Repr

/-- The result a result code names (section 3.7). -/
def MemResult.ofCode (c : BitVec 2) : MemResult :=
  match c.toNat with
  | 0 => .good
  | 1 => .corrected
  | 2 => .uncorrectable
  | _ => .failed

/-- GOOD or CORRECTED (R37). -/
def MemResult.ok : MemResult → Bool
  | .good | .corrected => true
  | .uncorrectable | .failed => false

/-- A MEM_RESP with its fields decoded (R37, section 3.7). -/
structure MemResp where
  dtag   : Fin 8
  epoch  : Bool
  length : Nat
  result : MemResult
  data   : List Byte
  deriving DecidableEq, Repr

/-- The MEM_RESP a packet carries (section 3.7). -/
def MemResp.ofPacket (pkt : Packet) : MemResp where
  dtag := (field pkt.word0 8 3).toFin
  epoch := flagAt pkt.word0 11
  length := (field pkt.word0 16 7).toNat
  result := MemResult.ofCode (field pkt.word0 24 2)
  data := pkt.data

/-- The response carries exactly `n` data bytes: its data length says so and that many bytes follow (log entry 12). -/
def MemResp.carries (r : MemResp) (n : Nat) : Bool := r.length == n && r.data.length == n

/-! ### Packets on X -/

/-- The tag field of a forwarded READ or ACK write, and of X's completion: xtag plus 8 times the epoch (R38). -/
def xTagField (xtag : Fin 8) (epoch : Bool) : BitVec 8 := BitVec.ofNat 8 (xtag.val + 8 * epoch.toNat)

/-- A request forwarded to X: the upstream format with the extension address, the X tag field and the PRIV bit as decided at
classification (R38, R152, R153). -/
def xRequestPacket (r : Request) (addr : BitVec 40) (tagField : BitVec 8) (privileged : Bool) : Packet where
  word0 :=
    place 0 (if r.kind = .write then 2#4 else 1#4) ||| place 4 (bit privileged) ||| place 5 (bit r.ack)
      ||| place 8 tagField ||| place 16 (BitVec.ofNat 7 r.length) ||| place 24 addr
  data := r.data

/-- A COMPLETION from X with its fields decoded (R38, section 3.7). -/
structure XCompletion where
  tag    : Nat
  status : Nat
  length : Nat
  data   : List Byte
  deriving DecidableEq, Repr

/-- The COMPLETION a packet from X carries (section 3.7). A value word is ignored (log entry 12). -/
def XCompletion.ofPacket (pkt : Packet) : XCompletion where
  tag := (field pkt.word0 8 8).toNat
  status := (field pkt.word0 16 4).toNat
  length := (field pkt.word0 24 7).toNat
  data := pkt.data

/-- The xtag a tag field names: the field modulo 8 (R154). -/
def XCompletion.xtag (c : XCompletion) : Fin 8 := ⟨c.tag % 8, Nat.mod_lt _ (by decide)⟩

/-- The epoch a tag field of 0 to 15 carries: the field divided by 8 (R154). -/
def XCompletion.epoch (c : XCompletion) : Bool := c.tag / 8 % 2 == 1

/-- The completion carries exactly `n` data bytes (log entry 12). -/
def XCompletion.carries (c : XCompletion) (n : Nat) : Bool := c.length == n && c.data.length == n

/-- The count of a CREDIT from X (section 3.7). Data bytes or a value word that the packet carries are ignored (log entry 12). -/
def xCreditCount (pkt : Packet) : Nat := (field pkt.word0 16 4).toNat

/-! ### Region entries, default target, window descriptor, rights -/

/-- Target codes of a region entry (section 3.7). -/
def RegionTarget.code : RegionTarget → BitVec 2
  | .refuse => 0
  | .memory => 1
  | .extension => 2

/-- The target a code names; 3 is no target (section 3.7). -/
def RegionTarget.ofCode (c : BitVec 2) : Option RegionTarget :=
  match c.toNat with
  | 0 => some .refuse
  | 1 => some .memory
  | 2 => some .extension
  | _ => none

/-- Word 0, the range word (section 3.7, "Region entry"). -/
def RegionEntry.word0 (e : RegionEntry) : Word64 :=
  place 0 e.base ||| place 28 e.limit ||| place 56 e.target.code ||| place 58 (bit e.combine) ||| place 63 (bit e.valid)

/-- Word 1, the rights word (section 3.7, "Region entry"). -/
def RegionEntry.word1 (e : RegionEntry) : Word64 :=
  place 0 (portFlags e.read) ||| place 4 (portFlags e.write) ||| place 32 e.offset

/-- The entry with its range word replaced, when the value encodes one: no unused bit set and a target named (R2). -/
def RegionEntry.withWord0 (e : RegionEntry) (v : Word64) : Option RegionEntry :=
  if field v 59 4 ≠ 0 then none
  else
    match RegionTarget.ofCode (field v 56 2) with
    | none => none
    | some t =>
      some { e with base := field v 0 28, limit := field v 28 28, target := t, combine := flagAt v 58, valid := flagAt v 63 }

/-- The entry with its rights word replaced, when the value encodes one: no unused bit set and an offset other than −2^28
(R2). -/
def RegionEntry.withWord1 (e : RegionEntry) (v : Word64) : Option RegionEntry :=
  if field v 8 24 ≠ 0 ∨ field v 61 3 ≠ 0 ∨ field v 32 29 = BitVec.intMin 29 then none
  else some { e with read := portFlagsAt v 0, write := portFlagsAt v 4, offset := field v 32 29 }

/-- The code of a default target, by the target codes of the region-entry layout (R9). -/
def DefaultTarget.value : DefaultTarget → Word64
  | .refuse => 0
  | .extension => 2

/-- The default target a value encodes: 0 or 2 and nothing else (R9). -/
def DefaultTarget.ofValue (v : Word64) : Option DefaultTarget :=
  if v = 0 then some .refuse else if v = 2 then some .extension else none

/-- The descriptor word (section 3.7, "Window descriptor"). -/
def WindowDesc.word (d : WindowDesc) : Word64 :=
  place 0 d.base ||| place 28 (BitVec.ofNat 9 d.size) ||| place 40 d.memBase

/-- The descriptor a value encodes, when it passes the encoding and range checks of R23. -/
def WindowDesc.ofWord (v : Word64) : Option WindowDesc :=
  let base := field v 0 28
  let size := (field v 28 9).toNat
  let memBase := field v 40 24
  if field v 37 3 ≠ 0 ∨ 256 < size then none
  else if 1 ≤ size ∧ 2 ^ 28 - 1 < base.toNat + size - 1 then none
  else if 1 ≤ size ∧ 2 ^ 24 - 1 < memBase.toNat + size - 1 then none
  else some { base := base, size := size, memBase := memBase }

/-- The code of a window state (R28, R32). -/
def WindowState.code : WindowState → Nat
  | .closed => 0
  | .opened => 1
  | .locked => 2

/-- The code of a port state (section 3.4). -/
def PortState.code : PortState → Nat
  | .down => 0
  | .up => 1
  | .disabled => 2

/-- The rights value: management + 2 × privilege + 4 × window + 256 × quota (R165). -/
def Rights.value (r : Rights) : Nat :=
  r.management.toNat + 2 * r.privilege.toNat + 4 * r.window.toNat + 256 * r.quota

/-- The rights a value encodes, when its quota is 1 to 8 and it is a sum of that form (R165). -/
def Rights.ofValue (v : Word64) : Option Rights :=
  let n := v.toNat
  if n % 256 < 8 ∧ 1 ≤ n / 256 ∧ n / 256 ≤ 8 then
    some { management := flagAt v 0, privilege := flagAt v 1, window := flagAt v 2, quota := n / 256 }
  else none

/-! ### Error records -/

/-- The region index field: 0 to 31, 32 DEFAULT, 33 WINDOW (section 3.7). -/
def RegionIndex.code : RegionIndex → BitVec 6
  | .entry i => BitVec.ofNat 6 i.val
  | .default => 32
  | .window => 33

/-- The address field of a record (section 3.7, R176). -/
def RecordAddr.value : RecordAddr → BitVec 40
  | .bridge a => a
  | .memory a => a.setWidth 40
  | .line a => a.setWidth 40
  | .extension a => a
  | .row r => r.setWidth 40

/-- Address kinds (section 3.7). -/
def RecordAddr.kindCode : RecordAddr → BitVec 3
  | .bridge _ => 1
  | .memory _ => 2
  | .line _ => 3
  | .extension _ => 4
  | .row _ => 5

/-- The target field of a record (section 3.7). -/
def RecordTarget.field : Option RecordTarget → BitVec 2
  | none => 0
  | some .m => 1
  | some .x => 2

/-- Word 0 of a stored record (section 3.7, R176). -/
def LogEntry.word0 (e : LogEntry) : Word64 :=
  place 0 e.sequence ||| place 16 e.record.kind.code ||| place 21 (portField e.record.port)
    ||| place 24 (match e.record.tag with | some t => t.setWidth 5 | none => (31 : BitVec 5))
    ||| place 29 (RecordTarget.field e.record.target)
    ||| place 31 (bit e.record.count.isSome)
    ||| place 32 (match e.record.region with | some (i, _) => i.code | none => (63 : BitVec 6))
    ||| place 40 (match e.record.region with | some (_, g) => g | none => (0 : BitVec 8))
    ||| place 48 (match e.record.count with | some n => BitVec.ofNat 16 n | none => 0)

/-- Word 1 of a record (section 3.7, R176). -/
def ErrorRecord.word1 (r : ErrorRecord) : Word64 :=
  (match r.addr with
    | some a => place 0 a.value ||| place 40 a.kindCode
    | none => 0)
  ||| (match r.contributors with
    | some c => place 48 (portFlags c) ||| place 52 (1 : BitVec 1)
    | none => 0)

/-- Word 0 read from an empty log: kind 0, the sequence counter, every optional field absent (R180). -/
def emptyLogWord0 (sequence : BitVec 16) : Word64 :=
  place 0 sequence ||| place 21 (portField none) ||| place 24 (31 : BitVec 5) ||| place 32 (63 : BitVec 6)

end Machine

end Sys2Proof
end

