-- ==== Sys2Proof/Machine/Flags.lean ====
section
/-! DEFINITION. The posted-error flag of a port (section 3.4, R70, R86, R110) and the saturating counts. -/

namespace Sys2Proof.Machine

/-- One port's value changed by a function. -/
def PerPort.mod {α : Type} (x : PerPort α) (p : Port) (f : α → α) : PerPort α := x.set p (f (x.get p))

/-- Every port's value changed by a function. -/
def PerPort.map {α β : Type} (f : α → β) (x : PerPort α) : PerPort β := ⟨f x.u0, f x.u1, f x.u2, f x.u3⟩

/-- Two values for each port made into one. -/
def PerPort.zip {α β γ : Type} (f : α → β → γ) (x : PerPort α) (y : PerPort β) : PerPort γ :=
  ⟨f x.u0 y.u0, f x.u1 y.u1, f x.u2 y.u2, f x.u3 y.u3⟩

/-- A count that advances by one and stops at its limit (00_scope, "saturates"). -/
def saturate (limit n : Nat) : Nat := if n < limit then n + 1 else n

/-- A packet produced for the port's link (R36). -/
def PortBlock.send (b : PortBlock) (pkt : Packet) : PortBlock := { b with out := b.out ++ [pkt] }

/-- A COMPLETION produced for the port: sent while it is UP, and otherwise neither sent nor kept (R36, R109). -/
def PortBlock.complete (b : PortBlock) (tag : BitVec 8) (st : Status) (value : Option Word64) (data : List Byte) : PortBlock :=
  if b.state = .up then b.send (completionPacket tag st value data) else b

/-- The posted-error flag set (R70). -/
def PortBlock.setFlag (b : PortBlock) : PortBlock := { b with postedError := true }

/-- The flag of a contributor of a removed entry: set while its port is UP or DISABLED (R86). -/
def PortBlock.contribute (contributes : Bool) (b : PortBlock) : PortBlock :=
  if contributes && b.state != .down then b.setFlag else b

/-- The flags of an entry's contributors set (R86). -/
def flagContributors (c : PerPort Bool) (ports : PerPort PortBlock) : PerPort PortBlock :=
  PerPort.zip PortBlock.contribute c ports

/-- A FLUSH completes: it reports the flag as its status, and the flag is then cleared (R67, R110 steps 1 and 2). -/
def PortBlock.reportFlag (b : PortBlock) (tag : BitVec 8) : PortBlock :=
  { b.complete tag (if b.postedError then .targetError else .ok) none [] with postedError := false }

/-- The FLUSH that holds the port's barrier completes: the flag reported and cleared, the barrier released (R110 steps 1
to 3). -/
def PortBlock.endFlush (b : PortBlock) (tag : BitVec 8) : PortBlock := { b.reportFlag tag with barrier := false }

end Sys2Proof.Machine
end

