-- ==== Sys2Proof/Machine/Ops.lean ====
section
/-! DEFINITION. The operations the events share: heads and credits of a port, the error log and its notices, tracker entries,
Posted Write Queue entries, and the tag windows. -/

namespace Sys2Proof.Machine

/-! ### Heads and credits (section 3.3) -/

/-- One port block changed by a function. -/
def State.modPort (s : State) (p : Port) (f : PortBlock → PortBlock) : State := { s with ports := s.ports.mod p f }

/-- The head leaves the ingress queue: its head record goes with it, the next request becomes the head at EXAMINE (R51), and
one credit becomes owed (R40). -/
def PortBlock.leave (b : PortBlock) : PortBlock :=
  { b with ingress := b.ingress.tail, progress := .examine, cls := none, owed := b.owed + 1 }

/-- The head takes a waiting progress, with its classification result from step 6 on (R51). -/
def PortBlock.wait (b : PortBlock) (g : Progress) (c : Option Classification) : PortBlock := { b with progress := g, cls := c }

/-- At the end of an event that leaves credits owed to a port that is UP or DISABLED, one CREDIT carries them all (R40). -/
def PortBlock.returnCredits (b : PortBlock) : PortBlock :=
  if b.owed = 0 ∨ b.state = .down then b
  else { b.send (creditPacket b.owed) with credits := b.credits + b.owed, owed := 0 }

/-- The value word of a completion made without serving the request: 0 for a control kind, none for the others (R36, R53). -/
def Request.emptyValue (r : Request) : Option Word64 := if r.kind.isControl then some 0 else none

/-- The request is answered with a status and no data, and leaves (R53). -/
def PortBlock.answer (b : PortBlock) (r : Request) (st : Status) : PortBlock := (b.complete r.tag st r.emptyValue []).leave

/-- A posted write is dropped: the flag is set and the write leaves (R53). -/
def PortBlock.dropPosted (b : PortBlock) : PortBlock := b.setFlag.leave

/-- The ingress queue is emptied. -/
def PortBlock.emptyIngress (b : PortBlock) : PortBlock := { b with ingress := [], progress := .examine, cls := none }

/-! ### The error log and notices (R177, R178, R181) -/

/-- A record is handed to the log: stored with the next sequence number and noticed, or, when the log is full, counted in the
overflow count. -/
def State.hand (s : State) (r : ErrorRecord) : State :=
  if s.log.records.length < Config.logRecords then
    let stored : State :=
      { s with log := { s.log with
          records := s.log.records ++ [{ sequence := s.log.sequence, record := r }]
          sequence := s.log.sequence + 1 } }
    if s.log.noticeEnable ∧ (s.ports.get s.log.noticePort).state = .up then
      stored.modPort s.log.noticePort (·.send (noticePacket s.log.sequence r.kind r.port))
    else stored
  else { s with log := { s.log with overflow := saturate 255 s.log.overflow } }

/-- The records an event hands to the log, in order (R179). -/
def State.handAll (s : State) (rs : List ErrorRecord) : State := rs.foldl State.hand s

/-- What an event leaves, with the records it hands to the log. -/
abbrev Event := State × List ErrorRecord

/-- The end of an event that may let requests leave: after its completions, the credits of every port, then the records with
their notices (R40, R182). -/
def Event.close (e : Event) : State := State.handAll { e.1 with ports := e.1.ports.map PortBlock.returnCredits } e.2

/-- The end of an event that lets no request leave: its records with their notices. -/
def Event.record (e : Event) : State := State.handAll e.1 e.2

/-- The target a destination names, for a record. -/
def Dest.target : Dest → RecordTarget
  | .memory _ => .m
  | .extension _ => .x

/-- The record of a posted write dropped at its port's head (R53). -/
def dropRecord (kind : RecordKind) (p : Port) (r : Request) (c : Option Classification) : ErrorRecord :=
  { kind := kind
    port := some p
    addr := some (.bridge r.addr)
    target := c.bind fun c => c.dest.map Dest.target
    region := c.map fun c => (c.region, c.generation) }

/-- UNKNOWN_RESPONSE (R39, R105, R120, R148, R154). -/
def unknownResponse (t : RecordTarget) (tag : Option (BitVec 8)) : ErrorRecord :=
  { kind := .unknownResponse, target := some t, tag := tag }

/-! ### Tracker entries (R95 to R97, R109) -/

/-- The entry with an index. -/
def State.entryAt (s : State) (i : Fin 24) : Option TrackerEntry := s.tracker.entries.find? (·.index = i)

/-- The lowest index no entry holds (R96); 0 when there is none, which the room condition rules out. -/
def State.freeIndex (s : State) : Fin 24 :=
  ((List.finRange 24).find? fun i => s.tracker.entries.all (·.index ≠ i)).getD 0

/-- The port's live entries (R59). -/
def State.liveCount (s : State) (p : Port) : Nat :=
  (s.tracker.entries.filter fun e => e.port = p && !e.orphan).length

/-- The room condition (R59). -/
def State.room (s : State) (p : Port) : Bool :=
  decide (s.liveCount p < (s.ports.get p).rights.quota) && decide (s.tracker.entries.length < Config.trackerEntries)

/-- A live entry of the port holds the tag (R58). -/
def State.tagLive (s : State) (p : Port) (tag : BitVec 8) : Bool :=
  s.tracker.entries.any fun e => e.port = p && e.tag = tag && !e.orphan

/-- A new live entry at the lowest free index, the youngest in creation order (R96). -/
def State.addEntry (s : State) (p : Port) (tag : BitVec 8) (work : TrackWork) (st : TrackState) : State :=
  { s with
    tracker := { s.tracker with
      entries := s.tracker.entries ++
        [{ index := s.freeIndex, port := p, tag := tag, work := work, state := st, orphan := false, stamp := s.stamp }] }
    stamp := s.stamp + 1 }

/-- The state of the entry with an index replaced. -/
def State.setEntryState (s : State) (i : Fin 24) (st : TrackState) : State :=
  { s with tracker := { s.tracker with
      entries := s.tracker.entries.map fun e => if e.index = i then { e with state := st } else e } }

/-- A live entry's completion produced for its port; an orphan produces none (R109). -/
def PerPort.completeEntry (ports : PerPort PortBlock) (e : TrackerEntry) (st : Status) (data : List Byte) :
    PerPort PortBlock :=
  if e.orphan then ports else ports.mod e.port (·.complete e.tag st none data)

/-- The entry completes, unless it is an orphan, and is freed (R96, R109). -/
def State.endEntry (s : State) (e : TrackerEntry) (st : Status) (data : List Byte) : State :=
  { s with
    ports := s.ports.completeEntry e st data
    tracker := { s.tracker with entries := s.tracker.entries.filter (·.index ≠ e.index) } }

/-- Entries complete with one status in their order, the orphans among them without a completion. -/
def PerPort.completeAll (ports : PerPort PortBlock) (es : List TrackerEntry) (st : Status) : PerPort PortBlock :=
  es.foldl (fun ports e => ports.completeEntry e st []) ports

/-- Every selected entry ends at one event: the live ones complete in creation order, all are freed (R114, R115, R116). -/
def State.endEntries (s : State) (sel : TrackerEntry → Bool) (st : Status) : State :=
  { s with
    ports := s.ports.completeAll (s.tracker.entries.filter sel) st
    tracker := { s.tracker with entries := s.tracker.entries.filter fun e => !sel e } }

/-- A READ to M. -/
def TrackerEntry.isReadM (e : TrackerEntry) : Bool := match e.work with | .readM .. => true | _ => false

/-- An entry whose request is on X. -/
def TrackerEntry.isOnX (e : TrackerEntry) : Bool := match e.work with | .readX .. | .ackX .. => true | _ => false

/-- The line a READ to M reads. -/
def TrackerEntry.line (e : TrackerEntry) : Option (BitVec 30) :=
  match e.work with | .readM a .. => some (lineOf a) | _ => none

/-- The record of an ISSUED entry that failed or timed out: port, tag, target, address, region index and generation (R104,
R106). READs take the first kind, ACK writes to X the second. -/
def TrackerEntry.failure (e : TrackerEntry) (onRead onWrite : RecordKind) : List ErrorRecord :=
  match e.work with
  | .readM a _ g n =>
    [{ kind := onRead, port := some e.port, tag := some e.tag, addr := some (.memory a), target := some .m, region := some (g, n) }]
  | .readX a _ g n =>
    [{ kind := onRead, port := some e.port, tag := some e.tag, addr := some (.extension a), target := some .x,
       region := some (g, n) }]
  | .ackX a g n =>
    [{ kind := onWrite, port := some e.port, tag := some e.tag, addr := some (.extension a), target := some .x,
       region := some (g, n) }]
  | .ackM _ | .flush _ => []

/-- The removed slots leave every awaited set; a FLUSH whose set becomes empty completes by its port's flag, releases the
barrier and is freed; an orphaned one is freed and touches neither (R90, R102, R110, R113). -/
def shrinkFlushes (gone : Fin 16 → Bool) :
    List TrackerEntry → PerPort PortBlock → List TrackerEntry × PerPort PortBlock
  | [], ports => ([], ports)
  | e :: es, ports =>
    match e.work with
    | .flush awaited =>
      let left := awaited.filter fun slot => !gone slot
      if left.isEmpty then
        shrinkFlushes gone es (if e.orphan then ports else ports.mod e.port (·.endFlush e.tag))
      else
        let rest := shrinkFlushes gone es ports
        ({ e with work := .flush left } :: rest.1, rest.2)
    | _ =>
      let rest := shrinkFlushes gone es ports
      (e :: rest.1, rest.2)

/-- The awaited sets after some slots are removed. -/
def State.shrinkFlushes (s : State) (gone : Fin 16 → Bool) : State :=
  let r := Machine.shrinkFlushes gone s.tracker.entries s.ports
  { s with ports := r.2, tracker := { s.tracker with entries := r.1 } }

/-! ### Posted Write Queue entries (chapter 5) -/

/-- The entry sealed: OPEN becomes SEALED and the seal timer stops; any other state stays (R76). -/
def PwqEntry.seal (e : PwqEntry) : PwqEntry := match e.state with | .openFor _ => { e with state := .sealed } | _ => e

/-- The entry is OPEN. -/
def PwqEntry.isOpen (e : PwqEntry) : Bool := match e.state with | .openFor _ => true | _ => false

/-- The entry is ISSUED. -/
def PwqEntry.isIssued (e : PwqEntry) : Bool := match e.state with | .issued .. => true | _ => false

/-- The queue's entries replaced. -/
def State.withPwq (s : State) (es : List PwqEntry) : State := { s with pwq := { s.pwq with entries := es } }

/-- Every selected entry that is OPEN is sealed (R76). -/
def State.sealWhere (s : State) (sel : PwqEntry → Bool) : State :=
  s.withPwq (s.pwq.entries.map fun e => if sel e then e.seal else e)

/-- The lowest slot no entry holds (R71); 0 when there is none, which an append rules out. -/
def State.freeSlot (s : State) : Fin 16 := ((List.finRange 16).find? fun i => s.pwq.entries.all (·.slot ≠ i)).getD 0

/-- The entry in a slot. -/
def State.pwqAt (s : State) (slot : Fin 16) : Option PwqEntry := s.pwq.entries.find? (·.slot = slot)

/-- The youngest entry of a line, in any state (R87). -/
def State.youngest (s : State) (line : BitVec 30) : Option PwqEntry := s.pwq.entries.reverse.find? (·.line = line)

/-- The oldest entry that is not ISSUED (R72). -/
def State.nextToIssue (s : State) : Option PwqEntry := s.pwq.entries.find? fun e => !e.isIssued

/-- A live memory read of the entry's line, older than the entry, that still stands HELD or READY (R79 condition 3). -/
def TrackerEntry.holdsBack (r : TrackerEntry) (e : PwqEntry) : Bool :=
  !r.orphan && r.line == some e.line && decide (r.stamp < e.stamp)
    && (match r.state with | .held _ | .ready => true | _ => false)

/-- The next-to-issue entry is eligible (R79). -/
def State.eligible (s : State) (e : PwqEntry) : Bool :=
  e.state == .sealed
    && s.pwq.entries.all (fun f => !(f.isIssued && f.line == e.line))
    && s.tracker.entries.all fun r => !r.holdsBack e

/-- The PWQ's candidate: the next-to-issue entry when it is eligible (R79, R124). -/
def State.pwqCandidate (s : State) : Option PwqEntry := s.nextToIssue.filter s.eligible

/-- The PWQ is urgent (R81). -/
def State.urgent (s : State) : Bool := decide (s.pwq.watermark ≤ s.pwq.entries.length) && s.pwqCandidate.isSome

/-- The owed ACK_WRITE entries complete in list order and are freed (R82 step 3, R92). -/
def answerOwed (st : Status) : List (Fin 24) → State → State
  | [], s => s
  | i :: is, s =>
    answerOwed st is (match s.entryAt i with | some e => s.endEntry e st [] | none => s)

/-- Every read held on the slot becomes READY (R82 step 5, R89). -/
def State.releaseHeld (s : State) (slot : Fin 16) : State :=
  { s with tracker := { s.tracker with
      entries := s.tracker.entries.map fun e => if e.state = .held slot then { e with state := .ready } else e } }

/-- The record of a PWQ entry that failed or timed out (R84, R85). -/
def PwqEntry.failure (e : PwqEntry) (kind : RecordKind) : ErrorRecord :=
  { kind := kind, addr := some (.line e.line), target := some .m, region := some (e.region, e.generation)
    contributors := some e.contributors }

/-- An ISSUED entry is removed by its response or expiry, its effects in the order of R82. `failed` names the record kind of a
failure or expiry. The heads that step 7 offers again advance at their own events (R52, R65; log entry 10). -/
def State.removePwq (s : State) (e : PwqEntry) (st : Status) (failed : Option RecordKind) : Event :=
  let s1 := s.withPwq (s.pwq.entries.filter (·.slot ≠ e.slot))
  let s2 := if failed.isSome then { s1 with ports := flagContributors e.contributors s1.ports } else s1
  let s3 := answerOwed st e.owed s2
  let s4 := s3.shrinkFlushes (· = e.slot)
  (s4.releaseHeld e.slot, failed.toList.map e.failure)

/-- The flags of the contributors of every entry set (R86, R92, R93). -/
def flagAll (es : List PwqEntry) (ports : PerPort PortBlock) : PerPort PortBlock :=
  es.foldl (fun ports e => flagContributors e.contributors ports) ports

/-! ### Tag windows (R118, R122, R151) -/

/-- The record of one dtag replaced. -/
def State.setDtag (s : State) (d : Fin 8) (x : DtagState) : State :=
  { s with sched := { s.sched with dtags := s.sched.dtags.set d x } }

/-- The state of one xtag replaced. -/
def State.setXtag (s : State) (t : Fin 8) (x : XtagState) : State := { s with ext := { s.ext with xtags := s.ext.xtags.set t x } }

/-- The lowest free dtag (R119). -/
def State.freeDtag (s : State) : Option (Fin 8) := (List.finRange 8).find? fun d => s.sched.dtags[d] = .free

/-- The lowest free xtag (R151). -/
def State.freeXtag (s : State) : Option (Fin 8) := (List.finRange 8).find? fun t => s.ext.xtags[t] = .free

/-- The M epoch flips: every dtag becomes free, with its owner and sweep timer (R122). -/
def Scheduler.flip (m : Scheduler) : Scheduler := { m with epoch := !m.epoch, dtags := Vector.replicate 8 .free }

/-- The X epoch flips: every xtag becomes free (R151). -/
def Extension.flip (x : Extension) : Extension := { x with epoch := !x.epoch, xtags := Vector.replicate 8 .free }

/-- A command produced for M (R37). -/
def State.sendM (s : State) (pkt : Packet) : State := { s with sched := { s.sched with out := s.sched.out ++ [pkt] } }

/-- The corrected count advances (R146). -/
def State.countCorrected (s : State) : State :=
  { s with sweep := { s.sweep with corrected := saturate (2 ^ 32 - 1) s.sweep.corrected } }

end Sys2Proof.Machine
end

