-- ==== Sys2Proof/Machine/RegionMap.lean ====
section
/-! DEFINITION. Classification by the Protected Window and the Region Map (chapters 1 and 2), and the commit checks. -/

namespace Sys2Proof.Machine

/-! ### Lookup and translation (R4 to R11) -/

/-- The entry is valid and its range contains the page (R4). -/
def RegionEntry.contains (e : RegionEntry) (page : BitVec 28) : Bool :=
  e.valid && decide (e.base.toNat ≤ page.toNat) && decide (page.toNat ≤ e.limit.toNat)

/-- The lowest-index valid entry whose range contains the page (R4). -/
def RegionTable.matching (t : RegionTable) (page : BitVec 28) : Option (Fin 32) :=
  (List.finRange 32).find? fun i => (t.entries[i]).contains page

/-- The byte address of the target page: the bridge page plus the page offset, with the low 12 bits of the bridge address (R5,
R6), as an exact number. -/
def RegionEntry.translate (e : RegionEntry) (a : BitVec 40) : Int :=
  ((pageOf a).toNat + e.offset.toInt) * 4096 + (a.toNat % 4096 : Nat)

/-- The target and translated address an entry gives; none for REFUSE (R5 to R7). -/
def RegionEntry.dest (e : RegionEntry) (a : BitVec 40) : Option Dest :=
  match e.target with
  | .refuse => none
  | .memory => some (.memory (BitVec.ofInt 36 (e.translate a)))
  | .extension => some (.extension (BitVec.ofInt 40 (e.translate a)))

/-- The combine value of the result: the entry's, for MEMORY alone (R1). -/
def RegionEntry.combineOut (e : RegionEntry) : Bool := match e.target with | .memory => e.combine | _ => false

/-- The access verdict of a matching entry for a port and direction (R7, R10). -/
def RegionEntry.verdict (e : RegionEntry) (p : Port) (isWrite : Bool) : Verdict :=
  match e.target with
  | .refuse => .refused
  | .memory | .extension => if (if isWrite then e.write else e.read).get p then .permitted else .refused

/-- The Region Map's answer: the matching entry's, or the default action's (R4 to R8, R10, R11). -/
def RegionMap.lookup (m : RegionMap) (p : Port) (a : BitVec 40) (isWrite privileged : Bool) : Classification :=
  match m.active.matching (pageOf a) with
  | some i =>
    let e := m.active.entries[i]
    { dest := e.dest a, region := .entry i, combine := e.combineOut, generation := m.generation
      verdict := e.verdict p isWrite, privileged := privileged }
  | none =>
    match m.active.default with
    | .refuse =>
      { dest := none, region := .default, combine := false, generation := m.generation, verdict := .noTarget
        privileged := privileged }
    | .extension =>
      { dest := some (.extension a), region := .default, combine := false, generation := m.generation
        verdict := .permitted, privileged := privileged }

/-! ### The Protected Window (R24 to R27) -/

/-- The page lies in the window range (section 2.1). -/
def WindowDesc.contains (d : WindowDesc) (page : BitVec 28) : Bool :=
  decide (d.base.toNat ≤ page.toNat) && decide (page.toNat < d.base.toNat + d.size)

/-- The window takes the request (R26): its page is in the range, and it is privileged, or the window is OPEN and its port has
the window right. -/
def WindowCtl.takes (w : WindowCtl) (page : BitVec 28) (privileged windowRight : Bool) : Bool :=
  w.desc.contains page && (privileged || (w.state == .opened && windowRight))

/-- The window's translation (R27). -/
def WindowDesc.translate (d : WindowDesc) (a : BitVec 40) : BitVec 36 :=
  BitVec.ofNat 36 ((d.memBase.toNat + (pageOf a).toNat - d.base.toNat) * 4096 + a.toNat % 4096)

/-- Step 6 of admission: a READ or WRITE is presented to the window, then to the Region Map (R26, R27, R60). -/
def State.classify (s : State) (p : Port) (r : Request) : Classification :=
  let rights := (s.ports.get p).rights
  let privileged := r.priv && rights.privilege
  if s.window.takes (pageOf r.addr) privileged rights.window then
    { dest := some (.memory (s.window.desc.translate r.addr)), region := .window, combine := false
      generation := s.regionMap.generation, verdict := .permitted, privileged := privileged }
  else s.regionMap.lookup p r.addr (r.kind == .write) privileged

/-! ### Commit checks (R13, R14) -/

/-- The number of the first check that a valid entry fails; none for an entry that passes or is not valid (R13). -/
def RegionEntry.failingCheck (e : RegionEntry) : Option Nat :=
  if !e.valid then none
  else if e.limit.toNat < e.base.toNat then some 1
  else
    match e.target with
    | .refuse => none
    | .memory =>
      if 0 ≤ (e.base.toNat : Int) + e.offset.toInt ∧ (e.limit.toNat : Int) + e.offset.toInt < 2 ^ 24 then none else some 2
    | .extension =>
      if 0 ≤ (e.base.toNat : Int) + e.offset.toInt ∧ (e.limit.toNat : Int) + e.offset.toInt < 2 ^ 28 then none else some 3

/-- The first failing entry in index order with its failing check (R13, R14). -/
def RegionTable.commitFailure (t : RegionTable) : Option (Fin 32 × Nat) :=
  (List.finRange 32).findSome? fun i => (t.entries[i]).failingCheck.map fun c => (i, c)

end Sys2Proof.Machine
end

