-- ==== Sys2Proof/Machine/Admission.lean ====
section
/-! DEFINITION. Admission (chapter 4): one advance of a port's head through its steps, and the dispatch of each kind, with the
Posted Write Queue's merge, append and read decision (chapter 5). -/

namespace Sys2Proof.Machine

/-! ### Ends and waits -/

/-- The head is answered (R53). -/
def State.answerHead (s : State) (p : Port) (r : Request) (st : Status) : Event := (s.modPort p (·.answer r st), [])

/-- The head, a posted write, is dropped with a record (R53). -/
def State.dropHead (s : State) (p : Port) (r : Request) (kind : RecordKind) (c : Option Classification) : Event :=
  (s.modPort p (·.dropPosted), [dropRecord kind p r c])

/-- The head waits (R51). -/
def State.waitHead (s : State) (p : Port) (g : Progress) (c : Option Classification) : Event := (s.modPort p (·.wait g c), [])

/-! ### Step 9: dispatch -/

/-- A READ to M (R63, R87): a read hit completes with the youngest entry's bytes and keeps no tracker entry (R88); a line held
without every byte makes the read HELD; no entry makes it READY. The entry consulted is sealed if OPEN. -/
def State.dispatchRead (s : State) (p : Port) (r : Request) (a : BitVec 36) (c : Classification) : Event :=
  match s.youngest (lineOf a) with
  | none =>
    ((s.addEntry p r.tag (.readM a r.length c.region c.generation) .ready).modPort p (·.leave), [])
  | some e =>
    let sealed := s.sealWhere (·.slot = e.slot)
    if LineImage.covers e.bytes (lineOffset a) r.length then
      (sealed.modPort p fun b =>
        (b.complete r.tag .ok none (LineImage.read e.bytes (lineOffset a) r.length)).leave, [])
    else
      ((sealed.addEntry p r.tag (.readM a r.length c.region c.generation) (.held e.slot)).modPort p (·.leave), [])

/-- The tail takes the merge of a write of this line with this combine value (R65, R73). -/
def PwqEntry.takesMerge (e : PwqEntry) (line : BitVec 30) (combine : Bool) : Bool :=
  e.isOpen && e.line == line && e.combine && combine

/-- The tail after a write is merged into it (R73, R75): the bytes stored, the port a contributor, an ACK write's entry on the
owed list, and the entry sealed by a full mask or an ACK write. -/
def PwqEntry.merge (e : PwqEntry) (p : Port) (bytes : LineImage) (owed : Option (Fin 24)) : PwqEntry :=
  let e' := { e with
    bytes := LineImage.merge bytes e.bytes, contributors := e.contributors.set p true, owed := e.owed ++ owed.toList }
  if LineImage.full e'.bytes || owed.isSome then e'.seal else e'

/-- The entry a write forms when it is appended (R74, R75). -/
def State.newPwqEntry (s : State) (p : Port) (line : BitVec 30) (bytes : LineImage) (c : Classification)
    (owed : Option (Fin 24)) : PwqEntry where
  slot := s.freeSlot
  line := line
  bytes := bytes
  contributors := (PerPort.const false).set p true
  owed := owed.toList
  combine := c.combine
  region := c.region
  generation := c.generation
  state :=
    if c.combine && decide (0 < s.pwq.combineWindow) && owed.isNone && !LineImage.full bytes then .openFor s.pwq.combineWindow
    else .sealed
  stamp := s.stamp

/-- The write is appended: an OPEN tail is sealed first (R74). -/
def State.appendWrite (s : State) (p : Port) (line : BitVec 30) (bytes : LineImage) (c : Classification)
    (owed : Option (Fin 24)) : State :=
  let es := s.pwq.entries.map PwqEntry.seal
  { s.withPwq (es ++ [s.newPwqEntry p line bytes c owed]) with stamp := s.stamp + 1 }

/-- The queue after a write is taken in, by merge or append, and the slot of the entry that took its bytes; none when it can do
neither (R65, R73, R74). -/
def State.takeWrite (s : State) (p : Port) (a : BitVec 36) (r : Request) (c : Classification) (owed : Option (Fin 24)) :
    Option (State × Fin 16) :=
  let line := lineOf a
  let bytes := LineImage.ofWrite (lineOffset a) r.data
  match s.pwq.entries.getLast? with
  | some tail =>
    if tail.takesMerge line c.combine then
      some (s.withPwq (s.pwq.entries.dropLast ++ [tail.merge p bytes owed]), tail.slot)
    else if s.pwq.entries.length < Config.pwqEntries then
      some (s.appendWrite p line bytes c owed, s.freeSlot)
    else none
  | none => some (s.appendWrite p line bytes c owed, s.freeSlot)

/-- A WRITE to M (R65, R66): taken in by the queue, an ACK write with its ACK_WRITE entry on the owed list; otherwise it waits in
WAIT_PWQ. -/
def State.dispatchWrite (s : State) (p : Port) (r : Request) (a : BitVec 36) (c : Classification) : Event :=
  let owed := if r.ack then some s.freeIndex else none
  match s.takeWrite p a r c owed with
  | none => s.waitHead p .waitPwq (some c)
  | some (s', slot) =>
    let s'' := if r.ack then s'.addEntry p r.tag (.ackM slot) .waiting else s'
    (s''.modPort p (·.leave), [])

/-- A FLUSH (R67): with an empty awaited set it completes by the flag; otherwise its entry waits, the barrier is held and an OPEN
entry in the set is sealed. -/
def State.dispatchFlush (s : State) (p : Port) (r : Request) : Event :=
  let awaited := (s.pwq.entries.filter (·.contributors.get p)).map (·.slot)
  if awaited.isEmpty then (s.modPort p fun b => (b.reportFlag r.tag).leave, [])
  else
    (((s.sealWhere (·.contributors.get p)).addEntry p r.tag (.flush awaited) .waiting).modPort p fun b =>
      { b.leave with barrier := true }, [])

/-- Step 9 for a READ or WRITE (R63 to R66). -/
def State.dispatch (s : State) (p : Port) (r : Request) (c : Classification) : Event :=
  match c.dest with
  | some (.memory a) => if r.kind = .write then s.dispatchWrite p r a c else s.dispatchRead p r a c
  | some (.extension _) => s.waitHead p .waitX (some c)
  | none => (s, [])

/-! ### Steps 8 to 1 -/

/-- The state of the link a destination names (R62). -/
def State.linkOf (s : State) : Dest → LinkState
  | .memory _ => s.sched.link
  | .extension _ => s.ext.link

/-- Steps 7 to 9 for a classified READ or WRITE (R61, R62). -/
def State.stepAccess (s : State) (p : Port) (r : Request) (c : Classification) : Event :=
  match c.verdict, c.dest with
  | .permitted, some d =>
    if s.linkOf d = .up then s.dispatch p r c
    else if r.posted then s.dropHead p r .writeTargetDown (some c)
    else s.answerHead p r .targetDown
  | .noTarget, _ =>
    if r.posted then s.dropHead p r .writeRefused (some c) else s.answerHead p r .noTarget
  | _, _ => if r.posted then s.dropHead p r .writeRefused (some c) else s.answerHead p r .refused

/-- Step 6 and on for a READ or WRITE, dispatch for a FLUSH (R60, R67). -/
def State.stepClassify (s : State) (p : Port) (r : Request) : Event :=
  if r.kind = .flush then s.dispatchFlush p r else s.stepAccess p r (s.classify p r)

/-- Step 5 and on: the room condition (R59). -/
def State.stepRoom (s : State) (p : Port) (r : Request) : Event :=
  if r.needsRoom && !s.room p then s.waitHead p .waitRoom none else s.stepClassify p r

/-- Step 4 and on: duplicate tags (R58). -/
def State.stepTag (s : State) (p : Port) (r : Request) : Event :=
  if r.needsRoom && s.tagLive p r.tag then
    (s.modPort p (·.leave),
      [{ kind := .dupTag, port := some p, tag := some r.tag
         addr := if r.kind.isAccess then some (.bridge r.addr) else none }])
  else s.stepRoom p r

/-- Step 3 and on: the FLUSH barrier (R57). -/
def State.stepBarrier (s : State) (p : Port) (r : Request) : Event :=
  if (s.ports.get p).barrier then s.waitHead p .waitBarrier none else s.stepTag p r

/-- Step 1 for a malformed request (R55). -/
def State.stepMalformed (s : State) (p : Port) (r : Request) : Event :=
  if r.posted then
    if (s.ports.get p).barrier then s.waitHead p .waitBarrier none else s.dropHead p r .malformed none
  else s.answerHead p r .malformed

/-- A head at EXAMINE from step 1 on (R54 to R56). -/
def State.stepFormat (s : State) (p : Port) (r : Request) : Event :=
  if r.malformed then s.stepMalformed p r
  else if r.kind.isControl then s.waitHead p .waitEngine none
  else s.stepBarrier p r

/-- A head in WAIT_PWQ, offered again (R65, R68): it dispatches when the queue holds fewer than 16 entries and, for an ACK
write, the room condition holds (log entry 14). -/
def State.offerAgain (s : State) (p : Port) (r : Request) : Event :=
  match (s.ports.get p).cls with
  | some c =>
    if decide (s.pwq.entries.length < Config.pwqEntries) && (r.posted || s.room p) then s.dispatch p r c else (s, [])
  | none => (s, [])

/-- One advance of a port's head (R52): from where it stands until it leaves or reaches a wait. A head whose wait has not ended,
and a port without a head, are left as they are. A head in WAIT_BARRIER stands at step 1 (a malformed posted write, R55) or
at step 3: steps 1 and 2 look at the request alone, so they bring it to where it stands. -/
def State.advance (s : State) (p : Port) : Event :=
  let b := s.ports.get p
  match b.state, b.ingress with
  | .up, r :: _ =>
    match b.progress with
    | .examine => s.stepFormat p r
    | .waitBarrier => if b.barrier then (s, []) else s.stepFormat p r
    | .waitRoom => if s.room p then s.stepClassify p r else (s, [])
    | .waitPwq => s.offerAgain p r
    | .waitEngine | .waitX => (s, [])
  | _, _ => (s, [])

/-! ### ADMISSION_ADVANCE -/

/-- ADMISSION_ADVANCE (R52). -/
def execAdmissionAdvance (p : Port) (s : State) : Host.Outcome State Fault Refusal := .next (Event.close (s.advance p))

end Sys2Proof.Machine
end

