-- ==== Sys2Proof/Machine/Links.lean ====
section
/-! DEFINITION. The reset line and the events of the links: cold reset, links ready and lost (sections 3.4, 3.6, chapters 5 to 9). -/

namespace Sys2Proof.Machine

/-! ### COLD_RESET -/

/-- COLD_RESET: every block at its cold value (R19, R33, R47, R94, R117, R136, R147, R158, R174, R184). The commands that wait are
no state of the bridge and stay (log entry 19). -/
def execColdReset (s : State) : Host.Outcome State Fault Refusal := .next { State.reset with pending := s.pending }

/-! ### Upstream links -/

/-- A DOWN port becomes UP with an empty queue, credit count 8 and one CREDIT 8 (R40, R42). -/
def PortBlock.linkReady (b : PortBlock) : PortBlock :=
  { b.emptyIngress with
    state := .up, credits := Config.ingressDepth, owed := 0, out := b.out ++ [creditPacket Config.ingressDepth] }

/-- PORT_LINK_READY. A link that is already carrying packets does not become ready: no event (log entry 4). -/
def execPortLinkReady (p : Port) (s : State) : Host.Outcome State Fault Refusal :=
  if (s.ports.get p).state = .down then .next (s.modPort p (·.linkReady)) else .next s

/-- The port block's part of the loss of its link (R43, R34): DOWN, ingress discarded, barrier released, flag cleared, credits 0,
packets not yet sent discarded (log entry 5). Rights and discarded count are kept. -/
def PortBlock.linkLost (b : PortBlock) : PortBlock :=
  { b.emptyIngress with
    state := .down, credits := 0, owed := 0, postedError := false, barrier := false, out := [] }

/-- Every live entry of the port becomes an orphan, its other fields as they were (R111). -/
def State.orphanPort (s : State) (p : Port) : State :=
  { s with tracker := { s.tracker with
      entries := s.tracker.entries.map fun e => if e.port = p then { e with orphan := true } else e } }

/-- PORT_LINK_LOST (R43). At a port that is DOWN it is no event. -/
def execPortLinkLost (p : Port) (s : State) : Host.Outcome State Fault Refusal :=
  if (s.ports.get p).state = .down then .next s
  else .next (Event.record ((s.modPort p (·.linkLost)).orphanPort p, [{ kind := .linkLost, port := some p }]))

/-! ### The M link -/

/-- The head of a port that waits in a progress is ended as if it had failed step 8 (R48, R49, R62): an ACK write or READ is
answered TARGET_DOWN, a posted write is dropped with a WRITE_TARGET_DOWN record. -/
def State.endWaiting (s : State) (g : Progress) (p : Port) : Event :=
  let b := s.ports.get p
  match b.ingress with
  | r :: _ =>
    if b.progress = g then
      if r.posted then s.dropHead p r .writeTargetDown b.cls else s.answerHead p r .targetDown
    else (s, [])
  | [] => (s, [])

/-- The waiting heads of several ports ended, in the order of the ports (R179). -/
def State.endWaitingAll (g : Progress) : List Port → Event → Event
  | [], e => e
  | p :: ps, e =>
    let e' := e.1.endWaiting g p
    State.endWaitingAll g ps (e'.1, e.2 ++ e'.2)

/-- The queue's part of an M loss (R92): every entry removed, the contributors' flags set, the owed ACK writes completed
TARGET_DOWN in queue order, every FLUSH completed, and the PWQ_DISCARD record. -/
def State.discardPwq (s : State) : Event :=
  let es := s.pwq.entries
  let s1 := { s.withPwq [] with ports := flagAll es s.ports }
  let s2 := answerOwed .targetDown (es.flatMap (·.owed)) s1
  (s2.shrinkFlushes fun _ => true,
    if es.isEmpty then [] else [{ kind := .pwqDiscard, target := some .m, count := some es.length }])

/-- The loss of the M link (R48, R133): M enters DOWN, the epoch flips, the hold ends and unsent commands are discarded; memory
reads complete TARGET_DOWN first (R114), then the queue is discarded (R92), the sweep queue emptied (R145) and the heads in
WAIT_PWQ ended. -/
def State.loseM (s : State) : Event :=
  let s1 := { s with sched := { s.sched.flip with link := .down, hold := none, out := [] } }
  let s2 := s1.endEntries TrackerEntry.isReadM .targetDown
  let e3 := s2.discardPwq
  let s4 := { e3.1 with sweep := { e3.1.sweep with queue := [] } }
  State.endWaitingAll .waitPwq [.u0, .u1, .u2, .u3] (s4, e3.2)

/-- M_LINK_LOST (R48). While M is DOWN it is no event. -/
def execMLinkLost (s : State) : Host.Outcome State Fault Refusal :=
  if s.sched.link = .down then .next s else .next (Event.close s.loseM)

/-- M_LINK_READY (R134): M enters UP; the window is as the last flip left it. -/
def execMLinkReady (s : State) : Host.Outcome State Fault Refusal := .next { s with sched := { s.sched with link := .up } }

/-! ### The X link -/

/-- The loss of the X link (R49, R156): X enters DOWN, the epoch flips, the credit count becomes 0 and unsent packets are
discarded; entries on X complete TARGET_DOWN first (R115), then the heads in WAIT_X are ended. -/
def State.loseX (s : State) : Event :=
  let s1 := { s with ext := { s.ext.flip with link := .down, credits := 0, out := [] } }
  let s2 := s1.endEntries TrackerEntry.isOnX .targetDown
  State.endWaitingAll .waitX [.u0, .u1, .u2, .u3] (s2, [])

/-- X_LINK_LOST (R49). While X is DOWN it is no event. -/
def execXLinkLost (s : State) : Host.Outcome State Fault Refusal :=
  if s.ext.link = .down then .next s else .next (Event.close s.loseX)

/-- X_LINK_READY (R156): X enters UP; credits, xtags and epoch are as the loss left them. -/
def execXLinkReady (s : State) : Host.Outcome State Fault Refusal := .next { s with ext := { s.ext with link := .up } }

end Sys2Proof.Machine
end

