-- ==== Sys2Proof/Machine/Scheduler.lean ====
section
/-! DEFINITION. The Memory Port Scheduler (chapter 7): one arbitration with its grant. -/

namespace Sys2Proof.Machine

/-- The port's candidate: its oldest READY memory read in creation order, orphans included (R98, R124). -/
def State.portCandidate (s : State) (p : Port) : Option TrackerEntry :=
  s.tracker.entries.find? fun e => e.port = p && e.isReadM && e.state = .ready

/-- Whom an arbitration grants, with what it issues. -/
inductive Winner where
  | port (e : TrackerEntry)
  | pwq (e : PwqEntry)
  | sweep (row : BitVec 20)
  deriving DecidableEq, Repr

/-- The candidate of a member of the rotation (R124). -/
def State.candidate (s : State) : Party → Option Winner
  | .port p => (s.portCandidate p).map .port
  | .pwq => s.pwqCandidate.map .pwq

/-- The member after this one: PWQ after U3, U0 after PWQ (R128). -/
def Party.next : Party → Party
  | .port .u0 => .port .u1
  | .port .u1 => .port .u2
  | .port .u2 => .port .u3
  | .port .u3 => .pwq
  | .pwq => .port .u0

/-- The rotation from a member on, wrapping from PWQ to U0 (R125 step 5). -/
def Party.fromHere (p : Party) : List Party := [p, p.next, p.next.next, p.next.next.next, p.next.next.next.next]

/-- The favoured port's candidate; none while FAVOURED is NONE (R125). -/
def State.favouredCandidate (s : State) : Option TrackerEntry := s.sched.favoured.bind s.portCandidate

/-- Step 5 of the decision: the first member from the rotation pointer with a candidate, and that candidate. -/
def State.rotationWinner (s : State) : Option (Party × Winner) :=
  s.sched.rotation.fromHere.findSome? fun q => (s.candidate q).map fun w => (q, w)

/-- Which step of R125 decided, and for step 5 which member of the rotation won. -/
inductive Deciding where
  | fullSweep
  | hold
  | slot
  | urgent
  | rotation (q : Party)
  | idleSweep
  deriving DecidableEq, Repr

/-- Steps 4 and 5 of R125: an urgent PWQ, then the rotation. -/
def State.urgentOrRotation (s : State) : Option (Deciding × Winner) :=
  if s.urgent then s.pwqCandidate.map fun e => (.urgent, .pwq e)
  else s.rotationWinner.map fun w => (.rotation w.1, w.2)

/-- Steps 2 to 5 of R125: the favoured port in its hold or at its slot, then the others. -/
def State.favouredOrOther (s : State) : Option (Deciding × Winner) :=
  match s.favouredCandidate with
  | some e =>
    if s.sched.hold.isSome then some (.hold, .port e)
    else if s.sched.slotCounter = 3 then some (.slot, .port e)
    else s.urgentOrRotation
  | none => s.urgentOrRotation

/-- The decision of R125: the first step whose condition holds, and its winner; none when no party has a candidate. -/
def State.decision (s : State) : Option (Deciding × Winner) :=
  match s.sweep.queue with
  | [] => s.favouredOrOther
  | row :: rest =>
    if Config.sweepRows ≤ rest.length + 1 then some (.fullSweep, .sweep row)
    else
      match s.favouredOrOther with
      | some d => some d
      | none => some (.idleSweep, .sweep row)

/-- The slot counter after a grant (R126). -/
def Scheduler.slotAfter (m : Scheduler) : Winner → Nat
  | .port e => if m.favoured = some e.port then 0 else saturate 3 m.slotCounter
  | .pwq _ => saturate 3 m.slotCounter
  | .sweep _ => m.slotCounter

/-- A hold with this remaining budget; none when the budget is used up (R127). -/
def holdOf (budget : Nat) : Option Nat := if budget = 0 then none else some budget

/-- The hold after a grant (R127): continued at step 2, started at step 3, and ended by inactivity or step 1 in every other
case. -/
def Scheduler.holdAfter (m : Scheduler) : Deciding → Option Nat
  | .hold => m.hold.bind fun n => holdOf (n - 1)
  | .slot => holdOf (m.holdBudget - 1)
  | .fullSweep | .urgent | .rotation _ | .idleSweep => none

/-- The rotation pointer after a grant: moved past the winner of step 5 alone (R128). -/
def Scheduler.rotationAfter (m : Scheduler) : Deciding → Party
  | .rotation q => q.next
  | .fullSweep | .hold | .slot | .urgent | .idleSweep => m.rotation

/-- What the grant does to the owner and the window: the dtag allocated, the owner ISSUED with its timer started, the command
produced (R80, R99, R119, R142). -/
def State.issue (s : State) (d : Fin 8) : Winner → State
  | .port e =>
    match e.work with
    | .readM a n _ _ =>
      ((s.setEntryState e.index (.issued d s.sched.epoch s.tracker.timeoutM)).setDtag d (.read e.index n)).sendM
        (memReadPacket d s.sched.epoch a n)
    | .readX .. | .ackM _ | .ackX .. | .flush _ => s
  | .pwq e =>
    ((s.withPwq (s.pwq.entries.map fun f =>
        if f.slot = e.slot then { f with state := .issued d s.tracker.timeoutM } else f)).setDtag d (.write e.slot)).sendM
      (memWritePacket d s.sched.epoch e.line e.bytes)
  | .sweep row =>
    ({ s with sweep := { s.sweep with queue := s.sweep.queue.tail } }.setDtag d (.sweep row s.tracker.timeoutM)).sendM
      (memSweepPacket d s.sched.epoch row)

/-- A grant: the command issued, then the slot counter, hold and rotation pointer moved (R126 to R128). -/
def State.grant (s : State) (d : Fin 8) (how : Deciding) (w : Winner) : State :=
  let t := s.issue d w
  { t with sched := { t.sched with
      slotCounter := s.sched.slotAfter w, hold := s.sched.holdAfter how, rotation := s.sched.rotationAfter how } }

/-- One arbitration (R123); nothing changes while M is DOWN, no dtag is free or no party has a candidate. -/
def State.arbitrate (s : State) : State :=
  match s.sched.link, s.freeDtag, s.decision with
  | .up, some d, some (how, w) => s.grant d how w
  | _, _, _ => s

/-- ARBITRATION (R123, R125). -/
def execArbitration (s : State) : Host.Outcome State Fault Refusal := .next s.arbitrate

end Sys2Proof.Machine
end

