-- ==== Sys2Proof/Machine/Responses.lean ====
section
/-! DEFINITION. Packets that arrive: requests on the upstream links, responses from M, completions and credits from X, and
packets out of place (chapters 3, 6, 7, 8, 9). -/

namespace Sys2Proof.Machine

/-! ### Upstream (R40, R41, R45) -/

/-- A request joins the tail of the ingress queue and takes one credit (R40). -/
def PortBlock.enqueue (b : PortBlock) (r : Request) : PortBlock :=
  { b with ingress := b.ingress ++ [r], credits := b.credits - 1 }

/-- A request discarded at its arrival at a DISABLED port: its credit taken and at once owed again, and counted (R45). -/
def PortBlock.discardArrival (b : PortBlock) : PortBlock :=
  { b with credits := b.credits - 1, owed := b.owed + 1, discarded := saturate 65535 b.discarded }

/-- The OVERRUN record (R41): the tag of a non-posted request whose tag field is 0 to 15, the address of a READ or WRITE
(log entry 13). -/
def overrunRecord (p : Port) (r : Request) : ErrorRecord :=
  { kind := .overrun
    port := some p
    tag := if !r.posted && decide (r.tag.toNat ≤ 15) then some r.tag else none
    addr := if r.kind.isAccess then some (.bridge r.addr) else none }

/-- A request arrives at a port (R40, R41, R45); a DOWN link carries nothing (section 3.4). -/
def State.arrive (s : State) (p : Port) (r : Request) : Event :=
  let b := s.ports.get p
  match b.state with
  | .down => (s, [])
  | .disabled => (s.modPort p (·.discardArrival), [])
  | .up =>
    if b.ingress.length < Config.ingressDepth then (s.modPort p (·.enqueue r), []) else (s, [overrunRecord p r])

/-- A packet on an upstream link: a request arrives; a COMPLETION or CREDIT is discarded and nothing is recorded (R39;
log entry 7). -/
def State.fromUpstream (s : State) (p : Port) (pkt : Packet) : Event :=
  if pkt.isRequest then s.arrive p (Request.ofPacket pkt) else (s, [])

/-! ### From M (R105, R106, R120, R143) -/

/-- A response taken by an ISSUED READ entry: its dtag is freed and it completes, OK with the data or TARGET_ERROR with a record
(R106). -/
def State.takeRead (s : State) (d : Fin 8) (e : TrackerEntry) (r : MemResp) : Event :=
  let s1 := s.setDtag d .free
  match r.result with
  | .good => (s1.endEntry e .ok r.data, [])
  | .corrected => ((s1.endEntry e .ok r.data).countCorrected, [])
  | .uncorrectable | .failed => (s1.endEntry e .targetError [], e.failure .readFailed .writeFailed)

/-- A response taken by an ISSUED PWQ entry: its dtag is freed and it is removed (R83, R84). -/
def State.takePwq (s : State) (d : Fin 8) (e : PwqEntry) (r : MemResp) : Event :=
  let s1 := s.setDtag d .free
  match r.result with
  | .good => s1.removePwq e .ok none
  | .corrected => s1.countCorrected.removePwq e .ok none
  | .uncorrectable | .failed => s1.removePwq e .targetError (some .writeFailed)

/-- A record about a swept row (R140, R143, R144). -/
def sweepRecord (kind : RecordKind) (row : BitVec 20) : ErrorRecord :=
  { kind := kind, target := some .m, addr := some (.row row) }

/-- A response taken by a sweep (R143). -/
def State.takeSweep (s : State) (d : Fin 8) (row : BitVec 20) (r : MemResp) : Event :=
  let s1 := s.setDtag d .free
  match r.result with
  | .good => (s1, [])
  | .corrected => (s1.countCorrected, [])
  | .uncorrectable => (s1, [sweepRecord .sweepUncorrectable row])
  | .failed => (s1, [sweepRecord .sweepFailed row])

/-- A late response from M: its dtag is freed and LATE index 0 advances (R107). -/
def State.lateM (s : State) (d : Fin 8) : State :=
  let s1 := s.setDtag d .free
  { s1 with sched := { s1.sched with late := saturate 65535 s1.sched.late } }

/-- The response names an allocated dtag but has the wrong shape, or names a free one: discarded and recorded (R39, R105). -/
def State.unknownM (s : State) (r : MemResp) : Event := (s, [unknownResponse .m (some (BitVec.ofNat 8 r.dtag.val))])

/-- A MEM_RESP while M is UP, judged by epoch and dtag (R105, R120). An allocated dtag always names an entry in the tracker or
queue (R118); if it named none, the response would be one the bridge owes to nobody, and is recorded as such. -/
def State.judgeM (s : State) (r : MemResp) : Event :=
  if r.epoch ≠ s.sched.epoch then (s, [])
  else
    match s.sched.dtags[r.dtag] with
    | .free => s.unknownM r
    | .stale => (s.lateM r.dtag, [])
    | .read i n =>
      match s.entryAt i with
      | some e => if r.carries (if r.result.ok then n else 0) then s.takeRead r.dtag e r else s.unknownM r
      | none => s.unknownM r
    | .write slot =>
      match s.pwqAt slot with
      | some e => if r.carries 0 then s.takePwq r.dtag e r else s.unknownM r
      | none => s.unknownM r
    | .sweep row _ => if r.carries 0 then s.takeSweep r.dtag row r else s.unknownM r

/-- A packet from M (R37, R39): a MEM_RESP is judged, any other kind is discarded and recorded. While M is DOWN the link carries
nothing (R34). -/
def State.fromM (s : State) (pkt : Packet) : Event :=
  if s.sched.link = .down then (s, [])
  else if pkt.isMemResp then s.judgeM (MemResp.ofPacket pkt)
  else (s, [unknownResponse .m none])

/-! ### From X (R105, R106, R148, R154) -/

/-- A completion taken by an ISSUED entry: its xtag is freed and it completes, OK or TARGET_ERROR with a record (R106, R154). -/
def State.takeX (s : State) (e : TrackerEntry) (c : XCompletion) : Event :=
  let s1 := s.setXtag c.xtag .free
  if c.status = 0 then (s1.endEntry e .ok c.data, [])
  else (s1.endEntry e .targetError [], e.failure .readFailed .writeFailed)

/-- A late completion from X: its xtag is freed and LATE index 1 advances (R107). -/
def State.lateX (s : State) (t : Fin 8) : State :=
  let s1 := s.setXtag t .free
  { s1 with ext := { s1.ext with late := saturate 65535 s1.ext.late } }

/-- A completion from X that is recorded with the xtag it named (R105, R154). -/
def State.unknownX (s : State) (c : XCompletion) : Event := (s, [unknownResponse .x (some (BitVec.ofNat 8 c.xtag.val))])

/-- The data a completion must carry: a READ's length when its status is OK, and nothing in every other case (R105, R154). -/
def TrackerEntry.xLength (e : TrackerEntry) (c : XCompletion) : Nat :=
  match e.work with
  | .readX _ n _ _ => if c.status = 0 then n else 0
  | _ => 0

/-- A COMPLETION while X is UP, judged by tag field, epoch and xtag (R105, R154). An allocated xtag always names an entry in the
tracker (R151). -/
def State.judgeX (s : State) (c : XCompletion) : Event :=
  if 15 < c.tag then (s, [unknownResponse .x none])
  else if c.epoch ≠ s.ext.epoch then (s, [])
  else
    match s.ext.xtags[c.xtag] with
    | .free => s.unknownX c
    | .stale => (s.lateX c.xtag, [])
    | .allocated i =>
      match s.entryAt i with
      | some e => if c.carries (e.xLength c) then s.takeX e c else s.unknownX c
      | none => s.unknownX c

/-- A CREDIT from X: a count of 1 to 8 raises the credit count, which stops at 8; any other count is recorded (R148). That it is
judged by its count alone, whatever bytes it carries, is the model's choice (log entry 12). -/
def State.creditX (s : State) (n : Nat) : Event :=
  if 1 ≤ n ∧ n ≤ 8 then ({ s with ext := { s.ext with credits := min Config.xCreditLimit (s.ext.credits + n) } }, [])
  else (s, [unknownResponse .x none])

/-- A packet from X (R38, R39): a COMPLETION or CREDIT is taken, any other kind is discarded and recorded. While X is DOWN the
link carries nothing (R34). DESIGN CHOICE: a CREDIT that carries data bytes or a value word, for which the spec gives no shape rule,
is taken by its count alone (log entry 12). -/
def State.fromX (s : State) (pkt : Packet) : Event :=
  if s.ext.link = .down then (s, [])
  else if pkt.isCompletion then s.judgeX (XCompletion.ofPacket pkt)
  else if pkt.isCredit then s.creditX (xCreditCount pkt)
  else (s, [unknownResponse .x none])

/-! ### The commands -/

/-- ARRIVAL (R40). -/
def execArrival (p : Port) (pkt : Packet) (s : State) : Host.Outcome State Fault Refusal :=
  .next (Event.close (s.fromUpstream p pkt))

/-- MEM_RESP (R120). -/
def execMemResp (pkt : Packet) (s : State) : Host.Outcome State Fault Refusal := .next (Event.record (s.fromM pkt))

/-- X_COMPLETION (R154). -/
def execXCompletion (pkt : Packet) (s : State) : Host.Outcome State Fault Refusal := .next (Event.record (s.fromX pkt))

/-- X_CREDIT (R148). -/
def execXCredit (pkt : Packet) (s : State) : Host.Outcome State Fault Refusal := .next (Event.record (s.fromX pkt))

/-- PACKET_OUT_OF_PLACE (R39): the packet has the effect its kind has on its link. -/
def execPacketOutOfPlace (l : Link) (pkt : Packet) (s : State) : Host.Outcome State Fault Refusal :=
  match l with
  | .up p => .next (Event.close (s.fromUpstream p pkt))
  | .m => .next (Event.record (s.fromM pkt))
  | .x => .next (Event.record (s.fromX pkt))

end Sys2Proof.Machine
end

