-- ==== Sys2Proof/Machine/Forwarder.lean ====
section
/-! DEFINITION. The Extension Forwarder's credit grants (chapter 9). -/

namespace Sys2Proof.Machine

/-- A port's head in WAIT_X with everything it needs besides the credit (R149): its request, classification and extension
address. -/
def State.creditCandidate (s : State) (p : Port) : Option (Request × Classification × BitVec 40) :=
  let b := s.ports.get p
  match b.state, b.progress, b.ingress, b.cls with
  | .up, .waitX, r :: _, some c =>
    match c.dest with
    | some (.extension a) => if r.posted || (s.freeXtag.isSome && s.room p) then some (r, c, a) else none
    | _ => none
  | _, _, _, _ => none

/-- The first port with a credit candidate from the credit rotation pointer on (R150). -/
def State.creditWinner (s : State) : Option (Port × Request × Classification × BitVec 40) :=
  s.ext.rotation.fromHere.findSome? fun p => (s.creditCandidate p).map fun x => (p, x)

/-- The Forwarder's part of a forward: one credit taken, the packet produced, the pointer moved past the winner (R148, R150,
R152, R153). -/
def Extension.forward (x : Extension) (p : Port) (pkt : Packet) : Extension :=
  { x with credits := x.credits - 1, rotation := p.next, out := x.out ++ [pkt] }

/-- A posted WRITE forwarded with tag field 0; the bridge keeps nothing of it (R153). -/
def State.forwardPosted (s : State) (p : Port) (r : Request) (c : Classification) (a : BitVec 40) : State :=
  { s with ext := s.ext.forward p (xRequestPacket r a 0 c.privileged) }.modPort p (·.leave)

/-- The work of a tracker entry for a request on X (R100, R152). -/
def xWork (r : Request) (c : Classification) (a : BitVec 40) : TrackWork :=
  if r.kind = .write then .ackX a c.region c.generation else .readX a r.length c.region c.generation

/-- A READ or ACK write forwarded under an xtag, its entry ISSUED with its timer started (R152). -/
def State.forwardTracked (s : State) (p : Port) (r : Request) (c : Classification) (a : BitVec 40) (t : Fin 8) : State :=
  let s1 := { s with ext := s.ext.forward p (xRequestPacket r a (xTagField t s.ext.epoch) c.privileged) }
  let s2 := (s1.setXtag t (.allocated s.freeIndex)).addEntry p r.tag (xWork r c a) (.issued t s.ext.epoch s.tracker.timeoutX)
  s2.modPort p (·.leave)

/-- One credit grant (R149); nothing changes while X is DOWN, the credit count is 0 or no port has a credit candidate. -/
def State.grantCredit (s : State) : Event :=
  if s.ext.link = .up ∧ 0 < s.ext.credits then
    match s.creditWinner with
    | some (p, r, c, a) =>
      if r.posted then (s.forwardPosted p r c a, [])
      else
        match s.freeXtag with
        | some t => (s.forwardTracked p r c a t, [])
        | none => (s, [])
    | none => (s, [])
  else (s, [])

/-- CREDIT_GRANT (R150). -/
def execCreditGrant (s : State) : Host.Outcome State Fault Refusal := .next (Event.close s.grantCredit)

end Sys2Proof.Machine
end

