-- ==== Sys2Proof/Machine/Timers.lean ====
section
/-! DEFINITION. Timer expiries (R77, R85, R104, R137, R140, R144). A timer that is not running does not expire: no event
(log entries 3 and 4). -/

namespace Sys2Proof.Machine

/-- SEAL_TIMER_EXPIRY: the OPEN entry is sealed (R77). -/
def execSealTimerExpiry (s : State) : Host.Outcome State Fault Refusal := .next (s.sealWhere fun _ => true)

/-- The response timer of an ISSUED PWQ entry expires (R85, R121): the entry is removed and its dtag stale-reserved. -/
def State.expirePwq (s : State) (slot : Fin 16) : Event :=
  match s.pwqAt slot with
  | some e =>
    match e.state with
    | .issued d _ => (s.setDtag d .stale).removePwq e .timeout (some .writeTimeout)
    | .openFor _ | .sealed => (s, [])
  | none => (s, [])

/-- PWQ_RESPONSE_TIMER_EXPIRY (R85). -/
def execPwqResponseTimerExpiry (slot : Fin 16) (s : State) : Host.Outcome State Fault Refusal :=
  .next (Event.record (s.expirePwq slot))

/-- The tag of an ISSUED entry stale-reserved in its window: a dtag for a READ to M, an xtag for an entry on X (R104,
R121, R155). -/
def State.staleTag (s : State) (e : TrackerEntry) (tag : Fin 8) : State :=
  if e.isOnX then s.setXtag tag .stale else s.setDtag tag .stale

/-- The response timer of an ISSUED tracker entry expires (R104): TIMEOUT if live, the record, the tag stale-reserved, the entry
freed. -/
def State.expireEntry (s : State) (i : Fin 24) : Event :=
  match s.entryAt i with
  | some e =>
    match e.state with
    | .issued tag _ _ => ((s.staleTag e tag).endEntry e .timeout [], e.failure .readTimeout .writeTimeout)
    | .held _ | .ready | .waiting => (s, [])
  | none => (s, [])

/-- RESPONSE_TIMER_EXPIRY (R104). -/
def execResponseTimerExpiry (i : Fin 24) (s : State) : Host.Outcome State Fault Refusal := .next (Event.record (s.expireEntry i))

/-- The response timer in a sweep's dtag record expires: SWEEP_TIMEOUT, and the dtag stale-reserved, the row forgotten (R121,
R144). -/
def State.expireSweep (s : State) (d : Fin 8) : Event :=
  match s.sched.dtags[d] with
  | .sweep row _ => (s.setDtag d .stale, [sweepRecord .sweepTimeout row])
  | .free | .stale | .read .. | .write _ => (s, [])

/-- SWEEP_RESPONSE_TIMER_EXPIRY (R144). -/
def execSweepResponseTimerExpiry (d : Fin 8) (s : State) : Host.Outcome State Fault Refusal :=
  .next (Event.record (s.expireSweep d))

/-- A new sweep period of this length, or the timer stopped for 0 (R137, R138). -/
def sweepPeriod (interval : Nat) : Option Nat := if interval = 0 then none else some interval

/-- The row counter joins the tail of the queue and advances by one modulo SWEEP_ROWS (R139, R140). -/
def SweepGen.queueRow (g : SweepGen) : SweepGen :=
  { g with queue := g.queue ++ [BitVec.ofNat 20 g.row], row := (g.row + 1) % g.rows }

/-- The sweep timer expires (R140, R145): with M UP the row counter joins the queue or an overrun is recorded, with M DOWN
nothing; a new period begins (R137). -/
def State.expireSweepTimer (s : State) : Event :=
  if s.sweep.timer.isNone then (s, [])
  else
    let s1 := { s with sweep := { s.sweep with timer := sweepPeriod s.sweep.interval } }
    if s.sched.link = .down then (s1, [])
    else if s.sweep.queue.length < Config.sweepRows then ({ s1 with sweep := s1.sweep.queueRow }, [])
    else (s1, [sweepRecord .sweepOverrun (BitVec.ofNat 20 s.sweep.row)])

/-- SWEEP_TIMER_EXPIRY (R140). -/
def execSweepTimerExpiry (s : State) : Host.Outcome State Fault Refusal := .next (Event.record s.expireSweepTimer)

end Sys2Proof.Machine
end

