-- ==== Sys2Proof/Machine/Control.lean ====
section
/-! DEFINITION. The Control Engine (chapter 10): selection, the checks every control request passes, the control objects, and the
service of each row of the opcode table. -/

namespace Sys2Proof.Machine

/-! ### Control objects (section 10.2) -/

/-- The control objects (section 10.2). -/
inductive Obj where
  | regionStaged | regionActive | defaultTargetStaged | defaultTargetActive | generation | window | windowState
  | portRights | portState | discarded | favoured | holdBudget | watermark | combineWindow | timeoutM | timeoutX
  | sweepInterval | sweepRows | sweepRow | corrected | late | pwqOccupancy | trackerOccupancy | logHead | logStatus
  | noticePort | noticeEnable | bridgeInfo
  deriving DecidableEq, Repr

/-- The object an object code names (section 10.2). -/
def Obj.ofCode : Nat → Option Obj
  | 1 => some .regionStaged
  | 2 => some .regionActive
  | 3 => some .defaultTargetStaged
  | 4 => some .defaultTargetActive
  | 5 => some .generation
  | 6 => some .window
  | 7 => some .windowState
  | 8 => some .portRights
  | 9 => some .portState
  | 10 => some .discarded
  | 11 => some .favoured
  | 12 => some .holdBudget
  | 13 => some .watermark
  | 14 => some .combineWindow
  | 15 => some .timeoutM
  | 16 => some .timeoutX
  | 17 => some .sweepInterval
  | 18 => some .sweepRows
  | 19 => some .sweepRow
  | 20 => some .corrected
  | 21 => some .late
  | 22 => some .pwqOccupancy
  | 23 => some .trackerOccupancy
  | 24 => some .logHead
  | 25 => some .logStatus
  | 26 => some .noticePort
  | 27 => some .noticeEnable
  | 28 => some .bridgeInfo
  | _ => none

/-- How many indices an object has, from 0 up (section 10.2). -/
def Obj.indices : Obj → Nat
  | .regionStaged | .regionActive => 64
  | .portRights | .portState | .discarded => 4
  | .late | .logHead => 2
  | .bridgeInfo => 10
  | .defaultTargetStaged | .defaultTargetActive | .generation | .window | .windowState | .favoured | .holdBudget
  | .watermark | .combineWindow | .timeoutM | .timeoutX | .sweepInterval | .sweepRows | .sweepRow | .corrected
  | .pwqOccupancy | .trackerOccupancy | .logStatus | .noticePort | .noticeEnable => 1

/-- The objects a CTRL_WRITE may not write (section 10.2). -/
def Obj.readOnly : Obj → Bool
  | .regionActive | .defaultTargetActive | .generation | .windowState | .portState | .discarded | .sweepRow | .corrected
  | .late | .pwqOccupancy | .trackerOccupancy | .logHead | .logStatus | .bridgeInfo => true
  | .regionStaged | .defaultTargetStaged | .window | .portRights | .favoured | .holdBudget | .watermark | .combineWindow
  | .timeoutM | .timeoutX | .sweepInterval | .sweepRows | .noticePort | .noticeEnable => false

/-- A word of a table's entry: the entry is half the index, the word the remainder (section 1.1, R3). -/
def RegionTable.word (t : RegionTable) (i : Nat) : Word64 :=
  match t.entries[i / 2]? with
  | some e => if i % 2 = 0 then e.word0 else e.word1
  | none => 0

/-- A word of the oldest record, or of an empty log (R180). -/
def ErrorLog.head (l : ErrorLog) (i : Nat) : Word64 :=
  match l.records with
  | e :: _ => if i = 0 then e.word0 else e.record.word1
  | [] => if i = 0 then emptyLogWord0 l.sequence else 0

/-- LOG_STATUS: records, plus 256 times the overflow count, plus 65536 times the sequence counter (R180). -/
def ErrorLog.status (l : ErrorLog) : Nat := l.records.length + 256 * l.overflow + 65536 * l.sequence.toNat

/-- FAVOURED as its code: 4 names NONE (R130). -/
def favouredCode : Option Port → Nat
  | some p => p.code
  | none => 4

/-- The port block a port number names, for the objects with one index a port. -/
def State.portAt (s : State) (i : Nat) : PortBlock := s.ports.get ((Port.ofCode i).getD .u0)

/-- The value a CTRL_READ of an object carries (R3, R9, R18, R22, R32, R78, R81, R94, R97, R103, R107, R130, R131, R138, R139,
R141, R146, R163, R164, R165, R180, R183). -/
def State.objectValue (s : State) (o : Obj) (i : Nat) : Word64 :=
  match o with
  | .regionStaged => s.regionMap.staged.word i
  | .regionActive => s.regionMap.active.word i
  | .defaultTargetStaged => s.regionMap.staged.default.value
  | .defaultTargetActive => s.regionMap.active.default.value
  | .generation => s.regionMap.generation.setWidth 64
  | .window => s.window.desc.word
  | .windowState => BitVec.ofNat 64 s.window.state.code
  | .portRights => BitVec.ofNat 64 (s.portAt i).rights.value
  | .portState => BitVec.ofNat 64 (s.portAt i).state.code
  | .discarded => BitVec.ofNat 64 (s.portAt i).discarded
  | .favoured => BitVec.ofNat 64 (favouredCode s.sched.favoured)
  | .holdBudget => BitVec.ofNat 64 s.sched.holdBudget
  | .watermark => BitVec.ofNat 64 s.pwq.watermark
  | .combineWindow => BitVec.ofNat 64 s.pwq.combineWindow
  | .timeoutM => BitVec.ofNat 64 s.tracker.timeoutM
  | .timeoutX => BitVec.ofNat 64 s.tracker.timeoutX
  | .sweepInterval => BitVec.ofNat 64 s.sweep.interval
  | .sweepRows => BitVec.ofNat 64 s.sweep.rows
  | .sweepRow => BitVec.ofNat 64 s.sweep.row
  | .corrected => BitVec.ofNat 64 s.sweep.corrected
  | .late => BitVec.ofNat 64 (if i = 0 then s.sched.late else s.ext.late)
  | .pwqOccupancy => BitVec.ofNat 64 s.pwq.entries.length
  | .trackerOccupancy => BitVec.ofNat 64 s.tracker.entries.length
  | .logHead => s.log.head i
  | .logStatus => BitVec.ofNat 64 s.log.status
  | .noticePort => BitVec.ofNat 64 s.log.noticePort.code
  | .noticeEnable => BitVec.ofNat 64 s.log.noticeEnable.toNat
  | .bridgeInfo => BitVec.ofNat 64 (Config.bridgeInfo.getD i 0)

/-! ### Selection and checks (R159 to R161) -/

/-- The rows of the opcode table that name a service of the Engine. -/
inductive CtrlRow where
  | commit | stageFromActive | windowOpen | windowClose | windowLock | logPop | logClear | portDisable | portEnable
  | warmReset | regionStagedWrite | defaultTargetStagedWrite | windowWrite | portRightsWrite | favouredWrite
  | combineWindowWrite | sweepIntervalWrite | sweepRowsWrite | object
  deriving DecidableEq, Repr

/-- The row of an action code (section 10.4); a code that names no action is served under `object` (log entry 8). -/
def CtrlRow.ofAction : Nat → CtrlRow
  | 1 => .commit
  | 2 => .stageFromActive
  | 3 => .windowOpen
  | 4 => .windowClose
  | 5 => .windowLock
  | 6 => .logPop
  | 7 => .logClear
  | 8 => .portDisable
  | 9 => .portEnable
  | 10 => .warmReset
  | _ => .object

/-- The row of a write of an object (section 10.2). -/
def CtrlRow.ofWrite : Nat → CtrlRow
  | 1 => .regionStagedWrite
  | 3 => .defaultTargetStagedWrite
  | 6 => .windowWrite
  | 8 => .portRightsWrite
  | 11 => .favouredWrite
  | 14 => .combineWindowWrite
  | 17 => .sweepIntervalWrite
  | 18 => .sweepRowsWrite
  | _ => .object

/-- The row of the opcode table that serves a control request. -/
def Request.row (r : Request) : CtrlRow :=
  match r.kind with
  | .ctrlAction => .ofAction r.code
  | .ctrlWrite => .ofWrite r.code
  | .ctrlRead | .read | .write | .flush | .unknown _ => .object

/-- The request of a control candidate: the head, in WAIT_ENGINE, of a port that is UP (R159). -/
def State.controlCandidate (s : State) (p : Port) : Option Request :=
  let b := s.ports.get p
  match b.state, b.progress, b.ingress with
  | .up, .waitEngine, r :: _ => some r
  | _, _, _ => none

/-- The winner of a selection: the first control candidate from the Engine's rotation pointer on (R159). -/
def State.engineWinner (s : State) : Option (Port × Request) :=
  s.engine.fromHere.findSome? fun p => (s.controlCandidate p).map fun r => (p, r)

/-- Checks 1 to 4 of R161; the status of the first that fails. -/
def Request.checks (r : Request) (rights : Rights) : Option Status :=
  if !rights.management then some .refused
  else if r.kind = .ctrlAction then
    if r.code = 0 ∨ 10 < r.code then some .invalid else none
  else
    match Obj.ofCode r.code with
    | none => some .invalid
    | some o =>
      if r.kind = .ctrlWrite ∧ o.readOnly then some .refused
      else if o.indices ≤ r.index then some .invalid
      else none

/-- What the service of a request leaves: the state, the completion's status and value, and the records. -/
structure Served where
  state   : State
  status  : Status
  value   : Word64 := 0
  records : List ErrorRecord := []
  deriving DecidableEq, Repr

/-- The requester's completion at the end of a service (R160 step 4). -/
def Served.reply (v : Served) (p : Port) (tag : BitVec 8) : Event :=
  (v.state.modPort p (·.complete tag v.status (some v.value) []), v.records)

/-- The selected request leaves its ingress queue and the pointer moves past its port (R159, R160 step 1). -/
def State.select (s : State) (p : Port) : State := { s with engine := p.next }.modPort p (·.leave)

/-- One selection with the service of the selected request (R160), when that request is of the row. A selection of another row's
request is another row's event, and without a candidate there is none: nothing changes (log entry 9). -/
def State.serve (s : State) (row : CtrlRow) (service : Port → Request → State → Served) : Event :=
  match s.engineWinner with
  | some (p, r) =>
    if r.row = row then
      match r.checks (s.ports.get p).rights with
      | some st => ({ state := s.select p, status := st } : Served).reply p r.tag
      | none => (service p r (s.select p)).reply p r.tag
    else (s, [])
  | none => (s, [])

/-! ### Region Map services (R2, R9, R13 to R17) -/

/-- COMMIT's service (R13 to R15). -/
def serveCommit (_ : Port) (_ : Request) (s : State) : Served :=
  match s.regionMap.staged.commitFailure with
  | some (i, c) => { state := s, status := .invalid, value := BitVec.ofNat 64 (i.val + 256 * c) }
  | none =>
    let g := s.regionMap.generation + 1
    { state := { s with regionMap := { s.regionMap with active := s.regionMap.staged, generation := g } }
      status := .ok
      value := g.setWidth 64 }

/-- STAGE_FROM_ACTIVE's service (R17). -/
def serveStageFromActive (_ : Port) (_ : Request) (s : State) : Served :=
  { state := { s with regionMap := { s.regionMap with staged := s.regionMap.active } }, status := .ok }

/-- The staged table replaced. -/
def State.withStaged (s : State) (t : RegionTable) : State := { s with regionMap := { s.regionMap with staged := t } }

/-- The service of a write of REGION_STAGED (R2). -/
def serveRegionStaged (_ : Port) (r : Request) (s : State) : Served :=
  let t := s.regionMap.staged
  match t.entries[r.index / 2]? with
  | none => { state := s, status := .invalid }
  | some e =>
    match (if r.index % 2 = 0 then e.withWord0 r.value else e.withWord1 r.value) with
    | none => { state := s, status := .invalid }
    | some e' =>
      { state := s.withStaged { t with entries := t.entries.setIfInBounds (r.index / 2) e' }, status := .ok }

/-- The service of a write of DEFAULT_TARGET_STAGED (R9). -/
def serveDefaultStaged (_ : Port) (r : Request) (s : State) : Served :=
  match DefaultTarget.ofValue r.value with
  | none => { state := s, status := .invalid }
  | some d => { state := s.withStaged { s.regionMap.staged with default := d }, status := .ok }

/-! ### Window services (R23, R28, R31) -/

/-- The WINDOW_CHANGE record (R31). -/
def windowRecord (p : Port) (r : Request) (w : WindowState) (generation : BitVec 8) : ErrorRecord :=
  { kind := .windowChange, port := some p, tag := some r.tag, count := some w.code, region := some (.window, generation) }

/-- A window action that leaves the state as it is, or changes it with a WINDOW_CHANGE record; the value is the code of the state
after it (R28, R31). -/
def State.windowTo (s : State) (p : Port) (r : Request) (w : WindowState) (st : Status) : Served :=
  if s.window.state = w then { state := s, status := st, value := BitVec.ofNat 64 w.code }
  else
    { state := { s with window := { s.window with state := w } }
      status := st
      value := BitVec.ofNat 64 w.code
      records := [windowRecord p r w s.regionMap.generation] }

/-- WINDOW_OPEN's service (R28). -/
def serveWindowOpen (p : Port) (r : Request) (s : State) : Served :=
  match s.window.state with
  | .closed | .opened => s.windowTo p r .opened .ok
  | .locked => s.windowTo p r .locked .state

/-- WINDOW_CLOSE's service (R28). -/
def serveWindowClose (p : Port) (r : Request) (s : State) : Served :=
  match s.window.state with
  | .closed | .opened => s.windowTo p r .closed .ok
  | .locked => s.windowTo p r .locked .ok

/-- WINDOW_LOCK's service (R28). -/
def serveWindowLock (p : Port) (r : Request) (s : State) : Served := s.windowTo p r .locked .ok

/-- The service of a write of WINDOW (R23): STATE outside CLOSED, then the value's checks. -/
def serveWindow (_ : Port) (r : Request) (s : State) : Served :=
  match s.window.state with
  | .opened | .locked => { state := s, status := .state }
  | .closed =>
    match WindowDesc.ofWord r.value with
    | none => { state := s, status := .invalid }
    | some d => { state := { s with window := { s.window with desc := d } }, status := .ok }

/-! ### Log services (R168) -/

/-- LOG_POP's service (R168). -/
def serveLogPop (_ : Port) (_ : Request) (s : State) : Served :=
  let left := s.log.records.tail
  { state := { s with log := { s.log with records := left } }, status := .ok, value := BitVec.ofNat 64 left.length }

/-- LOG_CLEAR's service (R168). -/
def serveLogClear (_ : Port) (_ : Request) (s : State) : Served :=
  { state := { s with log := { s.log with records := [], overflow := 0 } }
    status := .ok
    value := BitVec.ofNat 64 s.log.records.length }

/-! ### Port services (R44, R46, R165 to R167, R169, R170) -/

/-- The port goes from UP to DISABLED: every request discarded, its credit owed, and counted (R44). -/
def PortBlock.disable (b : PortBlock) : PortBlock :=
  { b.emptyIngress with
    state := .disabled
    owed := b.owed + b.ingress.length
    discarded := min 65535 (b.discarded + b.ingress.length) }

/-- PORT_DISABLE's service (R169). -/
def servePortDisable (p : Port) (r : Request) (s : State) : Served :=
  match Port.ofCode r.value.toNat with
  | none => { state := s, status := .invalid }
  | some q =>
    if q = p then { state := s, status := .state }
    else
      match (s.ports.get q).state with
      | .up => { state := s.modPort q (·.disable), status := .ok, value := BitVec.ofNat 64 PortState.disabled.code }
      | .disabled => { state := s, status := .ok, value := BitVec.ofNat 64 PortState.disabled.code }
      | .down => { state := s, status := .ok, value := BitVec.ofNat 64 PortState.down.code }

/-- The port goes from DISABLED to UP, its credit flow as it stands (R46). -/
def PortBlock.enable (b : PortBlock) : PortBlock := { b with state := .up }

/-- PORT_ENABLE's service (R170). -/
def servePortEnable (_ : Port) (r : Request) (s : State) : Served :=
  match Port.ofCode r.value.toNat with
  | none => { state := s, status := .invalid }
  | some q =>
    match (s.ports.get q).state with
    | .down => { state := s, status := .state }
    | .disabled => { state := s.modPort q (·.enable), status := .ok, value := BitVec.ofNat 64 PortState.up.code }
    | .up => { state := s, status := .ok, value := BitVec.ofNat 64 PortState.up.code }

/-- The port is UP and holds the management right (R166). -/
def PortBlock.manages (b : PortBlock) : Bool := b.state == .up && b.rights.management

/-- Some port is UP and holds the management right (R166). -/
def PerPort.managed (x : PerPort PortBlock) : Bool := x.u0.manages || x.u1.manages || x.u2.manages || x.u3.manages

/-- The service of a write of PORT_RIGHTS (R165, R166). At the write a head of that port in WAIT_ROOM is re-tested and advances
if the room condition now holds (R69, R167; log entry 10). -/
def servePortRights (_ : Port) (r : Request) (s : State) : Served :=
  match Rights.ofValue r.value, Port.ofCode r.index with
  | some rights, some q =>
    let s' := s.modPort q fun b => { b with rights := rights }
    if s'.ports.managed then
      let e : Event := if (s'.ports.get q).progress = .waitRoom then s'.advance q else (s', [])
      { state := e.1, status := .ok, records := e.2 }
    else { state := s, status := .state }
  | _, _ => { state := s, status := .invalid }

/-! ### Settings with an effect of their own (R78, R130, R138, R141) -/

/-- The service of a write of FAVOURED (R130): a new value also sets the slot counter to 0 and ends any hold. -/
def serveFavoured (_ : Port) (r : Request) (s : State) : Served :=
  let v := r.value.toNat
  if 4 < v then { state := s, status := .invalid }
  else if Port.ofCode v = s.sched.favoured then { state := s, status := .ok }
  else
    { state := { s with sched := { s.sched with favoured := Port.ofCode v, slotCounter := 0, hold := none } }
      status := .ok }

/-- The service of a write of COMBINE_WINDOW (R78): 0 also seals an OPEN tail. -/
def serveCombineWindow (_ : Port) (r : Request) (s : State) : Served :=
  let v := r.value.toNat
  if 255 < v then { state := s, status := .invalid }
  else
    let s' := { s with pwq := { s.pwq with combineWindow := v } }
    { state := if v = 0 then s'.sealWhere fun _ => true else s', status := .ok }

/-- The service of a write of SWEEP_INTERVAL (R138): the period in progress ends, and a new one starts unless the value is 0. -/
def serveSweepInterval (_ : Port) (r : Request) (s : State) : Served :=
  let v := r.value.toNat
  if 65535 < v then { state := s, status := .invalid }
  else { state := { s with sweep := { s.sweep with interval := v, timer := sweepPeriod v } }, status := .ok }

/-- The service of a write of SWEEP_ROWS (R141): a row counter at or above the new value becomes 0. -/
def serveSweepRows (_ : Port) (r : Request) (s : State) : Served :=
  let v := r.value.toNat
  if v = 0 ∨ 2 ^ 20 < v then { state := s, status := .invalid }
  else
    { state := { s with sweep := { s.sweep with rows := v, row := if v ≤ s.sweep.row then 0 else s.sweep.row } }
      status := .ok }

/-! ### Every other object (R162) -/

/-- A plain setting written, when the value is in its range (R81, R103, R131, R162, R183); none when it is out of range. -/
def State.writeSetting (s : State) (o : Obj) (v : Nat) : Option State :=
  match o with
  | .holdBudget => if 1 ≤ v ∧ v ≤ 15 then some { s with sched := { s.sched with holdBudget := v } } else none
  | .watermark => if 4 ≤ v ∧ v ≤ 16 then some { s with pwq := { s.pwq with watermark := v } } else none
  | .timeoutM => if 1 ≤ v ∧ v ≤ 1023 then some { s with tracker := { s.tracker with timeoutM := v } } else none
  | .timeoutX => if 1 ≤ v ∧ v ≤ 65535 then some { s with tracker := { s.tracker with timeoutX := v } } else none
  | .noticePort => (Port.ofCode v).map fun q => { s with log := { s.log with noticePort := q } }
  | .noticeEnable => if v ≤ 1 then some { s with log := { s.log with noticeEnable := v == 1 } } else none
  | .regionStaged | .regionActive | .defaultTargetStaged | .defaultTargetActive | .generation | .window | .windowState
  | .portRights | .portState | .discarded | .favoured | .combineWindow | .sweepInterval | .sweepRows | .sweepRow
  | .corrected | .late | .pwqOccupancy | .trackerOccupancy | .logHead | .logStatus | .bridgeInfo => none

/-- The service of every other control request that passes the checks: a CTRL_READ carries the object's value, a CTRL_WRITE sets a
setting (R162). -/
def serveObject (_ : Port) (r : Request) (s : State) : Served :=
  match Obj.ofCode r.code with
  | none => { state := s, status := .invalid }
  | some o =>
    if r.kind = .ctrlWrite then
      match s.writeSetting o r.value.toNat with
      | some s' => { state := s', status := .ok }
      | none => { state := s, status := .invalid }
    else { state := s, status := .ok, value := s.objectValue o r.index }

/-! ### WARM_RESET (R171 to R173) -/

/-- A request still in an ingress queue at a warm reset: a posted write sets the flag, any other completes ABORTED (R47,
R171). -/
def PortBlock.abort (b : PortBlock) (r : Request) : PortBlock :=
  if r.posted then b.setFlag else b.complete r.tag .aborted r.emptyValue []

/-- A port block's part of a warm reset: its ingress ended, each request's credit owed, its barrier released (R47, R57). -/
def PortBlock.warmReset (b : PortBlock) : PortBlock :=
  let n := b.ingress.length
  { (b.ingress.foldl PortBlock.abort b).emptyIngress with owed := b.owed + n, barrier := false }

/-- WARM_RESET's service (R171): the tracker aborted first, then the queue emptied with its contributors' flags, the ingress queues
aborted, the windows, sweep queue and pointers reset, and the WARM_RESET_DISCARD record (R172, R173). -/
def serveWarmReset (p : Port) (r : Request) (s : State) : Served :=
  let es := s.pwq.entries
  let s1 := s.endEntries (fun _ => true) .aborted
  let s2 := { s1.withPwq [] with ports := (flagAll es s1.ports).map PortBlock.warmReset }
  { state := { s2 with
      sched := { s2.sched.flip with slotCounter := 0, rotation := .port .u0, hold := none }
      sweep := { s2.sweep with queue := [] }
      ext := { s2.ext.flip with rotation := .u0 } }
    status := .ok
    records := [{ kind := .warmResetDiscard, port := some p, tag := some r.tag, count := some es.length }] }

/-! ### The rows -/

/-- COMMIT (R13). -/
def execCommit (s : State) : Host.Outcome State Fault Refusal := .next (Event.close (s.serve .commit serveCommit))

/-- STAGE_FROM_ACTIVE (R17). -/
def execStageFromActive (s : State) : Host.Outcome State Fault Refusal :=
  .next (Event.close (s.serve .stageFromActive serveStageFromActive))

/-- WINDOW_OPEN (R28). -/
def execWindowOpen (s : State) : Host.Outcome State Fault Refusal := .next (Event.close (s.serve .windowOpen serveWindowOpen))

/-- WINDOW_CLOSE (R28). -/
def execWindowClose (s : State) : Host.Outcome State Fault Refusal :=
  .next (Event.close (s.serve .windowClose serveWindowClose))

/-- WINDOW_LOCK (R28). -/
def execWindowLock (s : State) : Host.Outcome State Fault Refusal := .next (Event.close (s.serve .windowLock serveWindowLock))

/-- LOG_POP (R168). -/
def execLogPop (s : State) : Host.Outcome State Fault Refusal := .next (Event.close (s.serve .logPop serveLogPop))

/-- LOG_CLEAR (R168). -/
def execLogClear (s : State) : Host.Outcome State Fault Refusal := .next (Event.close (s.serve .logClear serveLogClear))

/-- PORT_DISABLE (R169). -/
def execPortDisable (s : State) : Host.Outcome State Fault Refusal :=
  .next (Event.close (s.serve .portDisable servePortDisable))

/-- PORT_ENABLE (R170). -/
def execPortEnable (s : State) : Host.Outcome State Fault Refusal := .next (Event.close (s.serve .portEnable servePortEnable))

/-- WARM_RESET (R171). -/
def execWarmReset (s : State) : Host.Outcome State Fault Refusal := .next (Event.close (s.serve .warmReset serveWarmReset))

/-- REGION_STAGED_WRITE (R2). -/
def execRegionStagedWrite (s : State) : Host.Outcome State Fault Refusal :=
  .next (Event.close (s.serve .regionStagedWrite serveRegionStaged))

/-- DEFAULT_TARGET_STAGED_WRITE (R9). -/
def execDefaultTargetStagedWrite (s : State) : Host.Outcome State Fault Refusal :=
  .next (Event.close (s.serve .defaultTargetStagedWrite serveDefaultStaged))

/-- WINDOW_WRITE (R23). -/
def execWindowWrite (s : State) : Host.Outcome State Fault Refusal := .next (Event.close (s.serve .windowWrite serveWindow))

/-- PORT_RIGHTS_WRITE (R165). -/
def execPortRightsWrite (s : State) : Host.Outcome State Fault Refusal :=
  .next (Event.close (s.serve .portRightsWrite servePortRights))

/-- FAVOURED_WRITE (R130). -/
def execFavouredWrite (s : State) : Host.Outcome State Fault Refusal :=
  .next (Event.close (s.serve .favouredWrite serveFavoured))

/-- COMBINE_WINDOW_WRITE (R78). -/
def execCombineWindowWrite (s : State) : Host.Outcome State Fault Refusal :=
  .next (Event.close (s.serve .combineWindowWrite serveCombineWindow))

/-- SWEEP_INTERVAL_WRITE (R138). -/
def execSweepIntervalWrite (s : State) : Host.Outcome State Fault Refusal :=
  .next (Event.close (s.serve .sweepIntervalWrite serveSweepInterval))

/-- SWEEP_ROWS_WRITE (R141). -/
def execSweepRowsWrite (s : State) : Host.Outcome State Fault Refusal :=
  .next (Event.close (s.serve .sweepRowsWrite serveSweepRows))

/-- CTRL_WRITE_OBJECT (R162), with every other control request (log entry 8). -/
def execCtrlWriteObject (s : State) : Host.Outcome State Fault Refusal := .next (Event.close (s.serve .object serveObject))

end Sys2Proof.Machine
end

