-- ==== Sys2Proof/Machine/Dispatch.lean ====
section
/-! DEFINITION. Dispatch: one arm for each command. -/

namespace Sys2Proof.Machine

/-- The effect of a command on everything but the queue of waiting commands. -/
def exec (i : Instr) (s : State) : Host.Outcome State Fault Refusal :=
  match i with
  | .coldReset => Sys2Proof.Machine.execColdReset s
  | .portLinkReady p => Sys2Proof.Machine.execPortLinkReady p s
  | .portLinkLost p => Sys2Proof.Machine.execPortLinkLost p s
  | .mLinkLost => Sys2Proof.Machine.execMLinkLost s
  | .mLinkReady => Sys2Proof.Machine.execMLinkReady s
  | .xLinkLost => Sys2Proof.Machine.execXLinkLost s
  | .xLinkReady => Sys2Proof.Machine.execXLinkReady s
  | .arrival p pkt => Sys2Proof.Machine.execArrival p pkt s
  | .packetOutOfPlace l pkt => Sys2Proof.Machine.execPacketOutOfPlace l pkt s
  | .admissionAdvance p => Sys2Proof.Machine.execAdmissionAdvance p s
  | .creditGrant => Sys2Proof.Machine.execCreditGrant s
  | .arbitration => Sys2Proof.Machine.execArbitration s
  | .memResp pkt => Sys2Proof.Machine.execMemResp pkt s
  | .xCompletion pkt => Sys2Proof.Machine.execXCompletion pkt s
  | .xCredit pkt => Sys2Proof.Machine.execXCredit pkt s
  | .sealTimerExpiry => Sys2Proof.Machine.execSealTimerExpiry s
  | .pwqResponseTimerExpiry slot => Sys2Proof.Machine.execPwqResponseTimerExpiry slot s
  | .responseTimerExpiry index => Sys2Proof.Machine.execResponseTimerExpiry index s
  | .sweepResponseTimerExpiry d => Sys2Proof.Machine.execSweepResponseTimerExpiry d s
  | .sweepTimerExpiry => Sys2Proof.Machine.execSweepTimerExpiry s
  | .commit => Sys2Proof.Machine.execCommit s
  | .stageFromActive => Sys2Proof.Machine.execStageFromActive s
  | .windowOpen => Sys2Proof.Machine.execWindowOpen s
  | .windowClose => Sys2Proof.Machine.execWindowClose s
  | .windowLock => Sys2Proof.Machine.execWindowLock s
  | .logPop => Sys2Proof.Machine.execLogPop s
  | .logClear => Sys2Proof.Machine.execLogClear s
  | .portDisable => Sys2Proof.Machine.execPortDisable s
  | .portEnable => Sys2Proof.Machine.execPortEnable s
  | .warmReset => Sys2Proof.Machine.execWarmReset s
  | .regionStagedWrite => Sys2Proof.Machine.execRegionStagedWrite s
  | .defaultTargetStagedWrite => Sys2Proof.Machine.execDefaultTargetStagedWrite s
  | .windowWrite => Sys2Proof.Machine.execWindowWrite s
  | .portRightsWrite => Sys2Proof.Machine.execPortRightsWrite s
  | .favouredWrite => Sys2Proof.Machine.execFavouredWrite s
  | .combineWindowWrite => Sys2Proof.Machine.execCombineWindowWrite s
  | .sweepIntervalWrite => Sys2Proof.Machine.execSweepIntervalWrite s
  | .sweepRowsWrite => Sys2Proof.Machine.execSweepRowsWrite s
  | .ctrlWriteObject => Sys2Proof.Machine.execCtrlWriteObject s

end Sys2Proof.Machine
end

