-- ==== Sys2Proof/Safety.lean ====
section
/-! DEFINITION. What the spec says stays true of the bridge: the invariants that statements speak of. -/

namespace Sys2Proof.Machine

/-- A property of every port's value, with the port. -/
abbrev PerPort.All {α : Type} (P : Port → α → Prop) (x : PerPort α) : Prop := P .u0 x.u0 ∧ P .u1 x.u1 ∧ P .u2 x.u2 ∧ P .u3 x.u3

/-! ### Credits (R40) -/

/-- Occupancy, credit count and owed credits of a port between events: adding up to 8 with nothing owed while it is UP or DISABLED
(R40), nothing left while it is DOWN (R43), an empty queue while it is DISABLED (R45). -/
abbrev PortBlock.CreditsAddUp (b : PortBlock) : Prop :=
  b.owed = 0
    ∧ (b.state = .down → b.ingress = [] ∧ b.credits = 0)
    ∧ (b.state ≠ .down → b.ingress.length + b.credits = 8)
    ∧ (b.state = .disabled → b.ingress = [])

/-- The credits of every port add up. -/
abbrev State.CreditsAddUp (s : State) : Prop := s.ports.All fun _ b => b.CreditsAddUp

/-! ### Region Map (R12) -/

/-- Every valid entry of the active table passes the commit checks (R12). -/
abbrev State.ActiveTableSound (s : State) : Prop := s.regionMap.active.commitFailure = none

/-! ### Error log (R177, R178) -/

/-- The log holds at most 8 records with consecutive sequence numbers, the last of them just below the counter, and the overflow
count stops at 255. -/
abbrev State.LogNumbered (s : State) : Prop :=
  s.log.records.length ≤ 8
    ∧ s.log.overflow ≤ 255
    ∧ s.log.records.map (·.sequence)
        = (List.range s.log.records.length).map fun i => s.log.sequence - BitVec.ofNat 16 (s.log.records.length - i)

/-! ### Sweeps (R137, R140, R141) -/

/-- The sweep queue holds at most 4 rows, the row counter is below SWEEP_ROWS, and the timer runs exactly while SWEEP_INTERVAL is
above 0. -/
abbrev State.SweepsBounded (s : State) : Prop :=
  s.sweep.queue.length ≤ 4
    ∧ s.sweep.row < s.sweep.rows
    ∧ s.sweep.rows ≤ 2 ^ 20
    ∧ s.sweep.interval ≤ 65535
    ∧ (s.sweep.timer = none ↔ s.sweep.interval = 0)

/-! ### Scheduler and Forwarder (R126, R127, R131, R148) -/

/-- The slot counter stays below 4, a hold is active only while FAVOURED names a port and has 1 to 14 grants left, HOLD_BUDGET is
1 to 15. -/
abbrev State.HoldSound (s : State) : Prop :=
  s.sched.slotCounter ≤ 3
    ∧ 1 ≤ s.sched.holdBudget ∧ s.sched.holdBudget ≤ 15
    ∧ (∀ n ∈ s.sched.hold, 1 ≤ n ∧ n ≤ 14 ∧ s.sched.favoured.isSome)

/-- The X credit count is at most 8 and is 0 while X is DOWN (R148, R156, R158). -/
abbrev State.XCreditsBounded (s : State) : Prop := s.ext.credits ≤ 8 ∧ (s.ext.link = .down → s.ext.credits = 0)

/-! ### Posted Write Queue (R71, R72, R79, R80) -/

/-- An older and a younger entry of the queue: different slots, only the youngest OPEN, ISSUED entries the oldest, no two ISSUED
entries of one line, appended in this order. -/
abbrev PwqEntry.Before (a b : PwqEntry) : Prop :=
  a.slot ≠ b.slot
    ∧ a.isOpen = false
    ∧ (b.isIssued = true → a.isIssued = true)
    ∧ ¬(a.isIssued = true ∧ b.isIssued = true ∧ a.line = b.line)
    ∧ a.stamp < b.stamp

/-- The queue holds at most 16 entries of 64 bytes in queue order. -/
abbrev State.QueueOrdered (s : State) : Prop :=
  s.pwq.entries.length ≤ 16
    ∧ s.pwq.entries.Pairwise PwqEntry.Before
    ∧ ∀ e ∈ s.pwq.entries, e.stamp < s.stamp ∧ e.bytes.length = 64

/-! ### Read Tracker (R96, R97) -/

/-- Two entries have different indices, and are not both live with one port and tag. -/
abbrev TrackerEntry.Apart (a b : TrackerEntry) : Prop :=
  a.index ≠ b.index ∧ ¬(a.orphan = false ∧ b.orphan = false ∧ a.port = b.port ∧ a.tag = b.tag)

/-- A port without a request has no head record; a head that waits for room, X or the queue is a READ, WRITE or FLUSH, and one that
will take an entry has a tag that no live entry of its port holds (R58). -/
abbrev State.HeadSound (s : State) (p : Port) (b : PortBlock) : Prop :=
  (b.ingress = [] → b.progress = .examine)
    ∧ ∀ r ∈ b.ingress.head?,
        (b.progress = .waitRoom ∨ b.progress = .waitX ∨ b.progress = .waitPwq) →
        (r.posted = true ∨ r.needsRoom = true) ∧ (r.needsRoom = true → s.tagLive p r.tag = false)

/-- The tracker holds at most 24 entries, no two live ones with one port and tag (R97). -/
abbrev State.TagsUnique (s : State) : Prop :=
  s.tracker.entries.length ≤ 24
    ∧ s.tracker.entries.Pairwise TrackerEntry.Apart
    ∧ s.ports.All fun p b => s.HeadSound p b

/-! ### Tags, slots and lines (R89, R101, R102, R118, R151) -/

/-- The state and tag of a tracker entry fit its kind, and what it refers to refers back: its dtag or xtag is allocated to it under
the current epoch (R99, R100, R118, R151), its slot holds an entry (R89, R101, R102), a FLUSH awaits entries that its port contributed
to (R67). -/
abbrev State.EntryTied (s : State) (e : TrackerEntry) : Prop :=
  match e.work, e.state with
  | .readM a _ _ _, .held slot => ∃ q ∈ s.pwq.entries, q.slot = slot ∧ q.line = lineOf a
  | .readM .., .ready => True
  | .readM _ n _ _, .issued d epoch _ => s.sched.dtags[d] = .read e.index n ∧ epoch = s.sched.epoch
  | .readX .., .issued t epoch _ => s.ext.xtags[t] = .allocated e.index ∧ epoch = s.ext.epoch
  | .ackX .., .issued t epoch _ => s.ext.xtags[t] = .allocated e.index ∧ epoch = s.ext.epoch
  | .ackM slot, .waiting => ∃ q ∈ s.pwq.entries, q.slot = slot ∧ e.index ∈ q.owed
  | .flush awaited, .waiting =>
    awaited ≠ [] ∧ ∀ slot ∈ awaited, ∃ q ∈ s.pwq.entries, q.slot = slot ∧ q.contributors.get e.port = true
  | _, _ => False

/-- A queue entry's dtag is allocated to it while it is ISSUED (R80, R118), and its owed list, of at most one member and of none
while the entry is OPEN (R75), names ACK_WRITE entries that wait for it (R101). -/
abbrev State.SlotTied (s : State) (q : PwqEntry) : Prop :=
  (match q.state with | .issued d _ => s.sched.dtags[d] = .write q.slot | _ => True)
    ∧ q.owed.length ≤ 1
    ∧ (q.isOpen = true → q.owed = [])
    ∧ ∀ i ∈ q.owed, ∃ e ∈ s.tracker.entries, e.index = i ∧ e.work = .ackM q.slot

/-- The entry is ISSUED under this tag. -/
abbrev TrackerEntry.IssuedAs (e : TrackerEntry) (tag : Fin 8) : Prop :=
  match e.state with | .issued t _ _ => t = tag | _ => False

/-- An allocated dtag names an outstanding command (R118): a READ entry of that length or a queue entry, ISSUED under it. -/
abbrev State.DtagTied (s : State) (d : Fin 8) : Prop :=
  match s.sched.dtags[d] with
  | .read i n => ∃ e ∈ s.tracker.entries, e.index = i ∧ e.IssuedAs d ∧ (match e.work with | .readM _ m _ _ => m = n | _ => False)
  | .write slot => ∃ q ∈ s.pwq.entries, q.slot = slot ∧ (match q.state with | .issued c _ => c = d | _ => False)
  | .free | .stale | .sweep .. => True

/-- An allocated xtag names an entry ISSUED on X under it (R151). -/
abbrev State.XtagTied (s : State) (t : Fin 8) : Prop :=
  match s.ext.xtags[t] with
  | .allocated i => ∃ e ∈ s.tracker.entries, e.index = i ∧ e.isOnX = true ∧ e.IssuedAs t
  | .free | .stale => True

/-- A queue entry that stood before a memory read of its line was admitted (R72). -/
abbrev TrackerEntry.After (e : TrackerEntry) (q : PwqEntry) : Prop := e.line = some q.line ∧ q.stamp < e.stamp

/-- A READY read has no entry of its line before it in the queue; a HELD read has none but the one it is held on and entries older
than that (R89). -/
abbrev State.ReadWaits (s : State) (e : TrackerEntry) : Prop :=
  match e.state with
  | .ready => ∀ q ∈ s.pwq.entries, ¬e.After q
  | .held slot => ∀ q ∈ s.pwq.entries, q.slot = slot → ∀ f ∈ s.pwq.entries, e.After f → f.stamp ≤ q.stamp
  | .issued .. | .waiting => True

/-- A FLUSH entry whose port still waits for its completion. -/
def TrackerEntry.isLiveFlush (e : TrackerEntry) : Bool := !e.orphan && match e.work with | .flush _ => true | _ => false

/-- A port has at most one live FLUSH and its barrier is held meanwhile (R57, R67, R110), and a head that waits past step 3 found the
barrier released (R52). -/
abbrev State.FlushesApart (s : State) : Prop :=
  (s.tracker.entries.Pairwise fun a b => ¬(a.isLiveFlush = true ∧ b.isLiveFlush = true ∧ a.port = b.port))
    ∧ (∀ e ∈ s.tracker.entries, e.isLiveFlush = true → (s.ports.get e.port).barrier = true)
    ∧ s.ports.All fun _ b =>
        (b.progress = .waitRoom ∨ b.progress = .waitX ∨ b.progress = .waitPwq) → b.barrier = false

/-- Every reference between the tracker, the queue and the tag windows is answered, reads wait for older writes of their line, and
each port has at most one live FLUSH, behind its barrier. -/
abbrev State.WorkTied (s : State) : Prop :=
  s.QueueOrdered
    ∧ s.tracker.entries.length ≤ 24
    ∧ s.tracker.entries.Pairwise (fun a b => a.index ≠ b.index)
    ∧ (∀ e ∈ s.tracker.entries, e.stamp < s.stamp ∧ s.EntryTied e ∧ s.ReadWaits e)
    ∧ (∀ q ∈ s.pwq.entries, s.SlotTied q)
    ∧ (∀ d : Fin 8, s.DtagTied d)
    ∧ (∀ t : Fin 8, s.XtagTied t)
    ∧ s.FlushesApart

/-! ### Settings (section 10.2) -/

/-- Every setting is in the range the object table gives it, and the window's ranges lie in their spaces (R23). -/
abbrev State.SettingsInRange (s : State) : Prop :=
  (4 ≤ s.pwq.watermark ∧ s.pwq.watermark ≤ 16)
    ∧ s.pwq.combineWindow ≤ 255
    ∧ (1 ≤ s.tracker.timeoutM ∧ s.tracker.timeoutM ≤ 1023)
    ∧ (1 ≤ s.tracker.timeoutX ∧ s.tracker.timeoutX ≤ 65535)
    ∧ s.window.desc.size ≤ 256
    ∧ s.window.desc.base.toNat + s.window.desc.size ≤ 2 ^ 28
    ∧ s.window.desc.memBase.toNat + s.window.desc.size ≤ 2 ^ 24
    ∧ s.ports.All fun _ b => 1 ≤ b.rights.quota ∧ b.rights.quota ≤ 8 ∧ b.discarded ≤ 65535

/-! ### The terms of the statements: heads -/

/-- Nothing is owed to any port, as between events (R40). -/
abbrev State.NothingOwed (s : State) : Prop := s.ports.All fun _ b => b.owed = 0

/-- One port block replaced. -/
def State.withPort (s : State) (p : Port) (b : PortBlock) : State := { s with ports := s.ports.set p b }

/-- The port is UP, and its head is this request at this progress (R51). -/
abbrev State.HeadAt (s : State) (p : Port) (r : Request) (g : Progress) : Prop :=
  s.NothingOwed ∧ (s.ports.get p).state = .up ∧ (s.ports.get p).ingress.head? = some r ∧ (s.ports.get p).progress = g

/-- The block after its head left the queue at an event that produced these packets for its port: the next request stands at
EXAMINE, and one CREDIT behind the packets returns the head's credit (R40, R51). -/
def PortBlock.afterHead (b : PortBlock) (pkts : List Packet) : PortBlock :=
  { b with
    ingress := b.ingress.tail, progress := .examine, cls := none, credits := b.credits + 1
    out := b.out ++ pkts ++ [creditPacket 1] }

/-- The state after the head of one port left. -/
def State.afterHead (s : State) (p : Port) (pkts : List Packet) : State := s.modPort p (·.afterHead pkts)

/-- The state after the head of one port, a posted write, was dropped: it left without a packet of its own, and the posted-error
flag is set (R53, R70). -/
def State.afterDrop (s : State) (p : Port) : State :=
  s.modPort p fun b => { b.afterHead [] with postedError := true }

/-- A live tracker entry of the port holds the tag (R58). -/
abbrev State.TagTaken (s : State) (p : Port) (tag : BitVec 8) : Prop :=
  ∃ e ∈ s.tracker.entries, e.port = p ∧ e.tag = tag ∧ e.orphan = false

/-- The room condition: fewer live entries of the port than its quota, and fewer than 24 entries in all (R59). -/
abbrev State.RoomFor (s : State) (p : Port) : Prop :=
  s.liveCount p < (s.ports.get p).rights.quota ∧ s.tracker.entries.length < 24

/-- This READ, WRITE or FLUSH is the head and its advance brings it past step 5 (R54 to R59): it was not examined, or waits for
a barrier that is released, and passes steps 1 to 5; or it waits for room and there is room. -/
abbrev State.PassesRoom (s : State) (p : Port) (r : Request) : Prop :=
  s.NothingOwed ∧ (s.ports.get p).state = .up ∧ (s.ports.get p).ingress.head? = some r
    ∧ (r.kind.isAccess = true ∨ r.kind = .flush)
    ∧ ((((s.ports.get p).progress = .examine ∨ (s.ports.get p).progress = .waitBarrier)
          ∧ r.malformed = false
          ∧ (s.ports.get p).barrier = false
          ∧ (r.needsRoom = true → ¬s.TagTaken p r.tag ∧ s.RoomFor p))
        ∨ ((s.ports.get p).progress = .waitRoom ∧ s.RoomFor p))

/-- This head's advance brings it to step 9 with this classification result and memory address: it passes steps 1 to 8 now (R60 to
R62), or it waits in WAIT_PWQ and the queue has room and, for an ACK write, the tracker (R65, R68). -/
abbrev State.ReachesMemory (s : State) (p : Port) (r : Request) (c : Classification) (a : BitVec 36) : Prop :=
  c.dest = some (.memory a)
    ∧ ((s.PassesRoom p r ∧ r.kind.isAccess = true ∧ s.classify p r = c ∧ c.verdict = .permitted ∧ s.sched.link = .up)
        ∨ (s.HeadAt p r .waitPwq ∧ (s.ports.get p).cls = some c ∧ s.pwq.entries.length < 16
            ∧ (r.posted = true ∨ s.RoomFor p)))

/-- The head of this port is a request in WAIT_X with this classification result and extension address, and everything it needs
besides the credit holds (R149). -/
abbrev State.WaitsForCredit (s : State) (p : Port) (r : Request) (c : Classification) (a : BitVec 40) : Prop :=
  s.HeadAt p r .waitX ∧ (s.ports.get p).cls = some c ∧ c.dest = some (.extension a)
    ∧ (r.posted = true ∨ (s.freeXtag.isSome = true ∧ s.RoomFor p))

/-! ### The terms of the statements: control requests -/

/-- The command of a row of the Engine's services. -/
def CtrlRow.command : CtrlRow → Instr
  | .commit => .commit
  | .stageFromActive => .stageFromActive
  | .windowOpen => .windowOpen
  | .windowClose => .windowClose
  | .windowLock => .windowLock
  | .logPop => .logPop
  | .logClear => .logClear
  | .portDisable => .portDisable
  | .portEnable => .portEnable
  | .warmReset => .warmReset
  | .regionStagedWrite => .regionStagedWrite
  | .defaultTargetStagedWrite => .defaultTargetStagedWrite
  | .windowWrite => .windowWrite
  | .portRightsWrite => .portRightsWrite
  | .favouredWrite => .favouredWrite
  | .combineWindowWrite => .combineWindowWrite
  | .sweepIntervalWrite => .sweepIntervalWrite
  | .sweepRowsWrite => .sweepRowsWrite
  | .object => .ctrlWriteObject

/-- The Engine selects this port's request, which is of this row (R159). -/
abbrev State.Selects (s : State) (p : Port) (r : Request) (row : CtrlRow) : Prop :=
  s.NothingOwed ∧ s.engineWinner = some (p, r) ∧ r.row = row

/-- The Engine selects this port's request, which is of this row and passes checks 1 to 4 (R159, R161). -/
abbrev State.Serves (s : State) (p : Port) (r : Request) (row : CtrlRow) : Prop :=
  s.Selects p r row ∧ r.checks (s.ports.get p).rights = none

/-- The state after a service: the request left, the pointer stands on the next port, and the completion with this status and value
went to the requester, with the CREDIT behind it (R159, R160). -/
def State.afterService (s : State) (p : Port) (r : Request) (st : Status) (v : Word64) : State :=
  { s with engine := p.next }.afterHead p [completionPacket r.tag st (some v) []]

/-! ### The terms of the statements: tracker and queue -/

/-- The ports after a tracker entry ended: a live entry's completion goes to its port while that is UP (R109). -/
def State.answered (s : State) (e : TrackerEntry) (st : Status) (data : List Byte) : PerPort PortBlock :=
  if e.orphan = false ∧ (s.ports.get e.port).state = .up then
    s.ports.set e.port
      { s.ports.get e.port with out := (s.ports.get e.port).out ++ [completionPacket e.tag st none data] }
  else s.ports

/-- The tracker without an entry. -/
def Tracker.without (t : Tracker) (e : TrackerEntry) : Tracker :=
  { t with entries := t.entries.filter fun f => f.index ≠ e.index }

/-- What becomes of a tracker entry when a queue entry is removed by its response or expiry: the ACK_WRITE it owes ends, a FLUSH
loses it and ends with its last member, a read held on it becomes READY (R82, R89, R90, R101). -/
def TrackerEntry.afterRemoval (slot : Fin 16) (e : TrackerEntry) : Option TrackerEntry :=
  match e.work with
  | .ackM owed => if owed = slot then none else some e
  | .flush awaited =>
    if awaited.all (· = slot) then none else some { e with work := .flush (awaited.filter (· ≠ slot)) }
  | .readM .. | .readX .. | .ackX .. => some (if e.state = .held slot then { e with state := .ready } else e)

/-- How an ISSUED queue entry ends: by this command, with this record on a failure, in a dtag left like this, and with this many
corrections (R83 to R85). -/
def QueueEntryEnds (s : State) (q : PwqEntry) (d : Fin 8) (c : Instr) (failed : Option RecordKind) (left : DtagState)
    (corrected : Bool) : Prop :=
  (c = .pwqResponseTimerExpiry q.slot ∧ failed = some .writeTimeout ∧ left = .stale ∧ corrected = false)
    ∨ ∃ pkt, c = .memResp pkt ∧ pkt.isMemResp = true ∧ s.sched.link = .up ∧ left = .free
      ∧ (MemResp.ofPacket pkt).dtag = d ∧ (MemResp.ofPacket pkt).epoch = s.sched.epoch
      ∧ (MemResp.ofPacket pkt).length = 0 ∧ pkt.data = []
      ∧ (match (MemResp.ofPacket pkt).result with
        | .good => failed = none ∧ corrected = false
        | .corrected => failed = none ∧ corrected = true
        | .uncorrectable | .failed => failed = some .writeFailed ∧ corrected = false)

/-- The completion status that the end of a queue entry gives the ACK write it owes (R83 to R85). -/
def owedStatus : Option RecordKind → Status
  | none => .ok
  | some .writeTimeout => .timeout
  | some _ => .targetError

/-- The grant that an arbitration makes in this state: whom it serves, if it takes place (R123). -/
def State.granted (s : State) : Option Winner :=
  match s.sched.link, s.freeDtag, s.decision with
  | .up, some _, some (_, w) => some w
  | _, _, _ => none

/-- This command is an arbitration that grants a port or the queue. -/
def State.grantsNonSweep (s : State) (c : Instr) : Bool :=
  c == .arbitration && (match s.granted with | some (.port _) | some (.pwq _) => true | _ => false)

/-- The parts of a port block that an event of another block leaves alone: all but the packets sent, the posted-error flag and the
barrier. -/
abbrev PortBlock.SameQueue (b b' : PortBlock) : Prop :=
  b' = { b with out := b'.out, postedError := b'.postedError, barrier := b'.barrier }

/-! ### The terms of the statements: the packets of an event -/

/-- The completions that a port is sent for its live entries among these, in their order: none unless it is UP (R36, R109). -/
def State.completionsFor (s : State) (p : Port) (es : List TrackerEntry) (st : Status) : List Packet :=
  if (s.ports.get p).state = .up then
    (es.filter fun e => e.port == p && !e.orphan).map fun e => completionPacket e.tag st none []
  else []

/-- The NOTICEs that a port is sent when an event hands these records to the log: one for each record stored, with the numbers they
are stored under, while the port is the notice port, NOTICE_ENABLE is 1 and the port is UP (R177, R178, R181, R182). -/
def State.notices (s : State) (p : Port) (records : List ErrorRecord) : List Packet :=
  if p = s.log.noticePort ∧ s.log.noticeEnable = true ∧ (s.ports.get p).state = .up then
    (records.take (8 - s.log.records.length)).mapIdx fun i r =>
      noticePacket (s.log.sequence + BitVec.ofNat 16 i) r.kind r.port
  else []

/-- The ACK_WRITE entries in the owed lists of these queue entries, in queue order and then in owed-list order (R82, R92, R101). -/
def State.owedEntries (s : State) (qs : List PwqEntry) : List TrackerEntry := qs.flatMap fun q => q.owed.filterMap s.entryAt

/-! ### The terms of the statements: the loss of a target link -/

/-- The head of this port waits in this progress. -/
abbrev State.HeadWaits (s : State) (g : Progress) (p : Port) : Prop :=
  (s.ports.get p).progress = g ∧ (s.ports.get p).ingress ≠ []

/-- The WRITE_TARGET_DOWN records of the posted heads that wait in this progress, in the order of the ports (R48, R49, R62, R179). -/
def State.lostHeads (s : State) (g : Progress) : List ErrorRecord :=
  [Port.u0, .u1, .u2, .u3].filterMap fun p =>
    match (s.ports.get p).ingress with
    | [] => none
    | r :: _ =>
      if (s.ports.get p).progress = g ∧ r.posted = true then some (dropRecord .writeTargetDown p r (s.ports.get p).cls) else none

/-- What the loss of a target link, which hands these records to the log, leaves of a port. Its packets are the completions that the
tracker and the queue produced for it, the answer of a waiting head that is no posted write, the CREDIT of a waiting head, and the
NOTICEs, in this order (R40, R48, R49, R182). A waiting head ends, and any other queue stays as it is. The flag and the barrier are
said beside it. -/
abbrev State.HeadEndsAtLoss (s t : State) (g : Progress) (p : Port) (completions : List Packet) (records : List ErrorRecord) : Prop :=
  let b := s.ports.get p
  let b' := t.ports.get p
  (s.HeadWaits g p → ∀ r ∈ b.ingress.head?,
      b' = { b with
        ingress := b.ingress.tail, progress := .examine, cls := none, credits := b.credits + 1
        postedError := b'.postedError, barrier := b'.barrier
        out := b.out ++ completions
          ++ (if r.posted = true then []
            else [completionPacket r.tag .targetDown (if r.kind.isControl = true then some 0 else none) []])
          ++ [creditPacket 1] ++ s.notices p records })
    ∧ (¬s.HeadWaits g p →
      b' = { b with
        postedError := b'.postedError, barrier := b'.barrier, out := b.out ++ completions ++ s.notices p records })

/-- The head that waits in this progress at this port is a posted write, which the loss of its target link drops (R48, R49). -/
abbrev State.HeadDropped (s : State) (g : Progress) (p : Port) : Prop :=
  s.HeadWaits g p ∧ ∃ r ∈ (s.ports.get p).ingress.head?, r.posted = true

end Sys2Proof.Machine
end

