-- ==== Sys2Proof/Certificates/Slice0/Obligations.lean ====
section
/-! DEFINITION. The statements for the provers. Each is about every state and every operand that meets its hypotheses. The
names that its text uses for conditions and for parts of states are those of Sys2Proof/Safety.lean. -/

open Sys2Proof Sys2Proof.Machine
open Sys2Proof.Word64 (field place)

/-! ### The machine -/

/-- A step carries out the command at the front with the rest of the queue behind it, and idles on an empty queue (the model's
choice, log entries 1 and 2). -/
def Obligations.StepCarriesOutTheFrontCommand : Prop :=
  (∀ (c : Instr) (rest : List Instr) (s : State),
      step { s with pending := c :: rest } = exec c { s with pending := rest })
    ∧ ∀ s : State, s.pending = [] → step s = .next s

/-- Every command completes in every state, and leaves the waiting commands alone. Section 11.7 names no failure that stops the
bridge; that no command faults or is refused is read from it (log entry 18). That a command whose event cannot take place in the
state completes with no effect (log entry 4), and that a cold reset keeps the waiting commands (log entry 19), is the model's
choice. -/
def Obligations.EveryCommandCompletes : Prop :=
  ∀ (c : Instr) (s : State), ∃ t, exec c s = .next t ∧ t.pending = s.pending

/-- R19, R33, R47, R94, R117, R136, R147, R158, R174, R184: a cold reset, from any state, sets every block to its cold value,
and in the state right after it every READ and WRITE has no target. That the waiting commands stay (log entry 19) and that the
lists of packets produced are emptied (log entry 5) is the model's choice. -/
def Obligations.ColdResetSetsEveryBlock : Prop :=
  ∀ s : State, ∃ t, exec .coldReset s = .next t ∧ t.pending = s.pending
    ∧ (∀ p, (t.ports.get p).state = .down ∧ (t.ports.get p).ingress = [] ∧ (t.ports.get p).progress = .examine
        ∧ (t.ports.get p).cls = none ∧ (t.ports.get p).credits = 0 ∧ (t.ports.get p).owed = 0
        ∧ (t.ports.get p).postedError = false ∧ (t.ports.get p).discarded = 0 ∧ (t.ports.get p).barrier = false
        ∧ (t.ports.get p).out = [])
    ∧ (t.ports.get .u0).rights.value = 1031
    ∧ (∀ p, p ≠ .u0 → (t.ports.get p).rights.value = 1024)
    ∧ (∀ i : Fin 32,
        t.regionMap.staged.entries[i] = ⟨false, 0, 0, .refuse, .const false, .const false, false, 0⟩
          ∧ t.regionMap.active.entries[i] = ⟨false, 0, 0, .refuse, .const false, .const false, false, 0⟩)
    ∧ t.regionMap.staged.default = .refuse ∧ t.regionMap.active.default = .refuse ∧ t.regionMap.generation = 0
    ∧ t.window = ⟨⟨0, 0, 0⟩, .closed⟩
    ∧ t.pwq = ⟨[], 12, 10⟩
    ∧ t.tracker = ⟨[], 200, 2000⟩
    ∧ (t.sched.link = .down ∧ t.sched.epoch = false ∧ (∀ d : Fin 8, t.sched.dtags[d] = .free) ∧ t.sched.slotCounter = 0
        ∧ t.sched.rotation = .port .u0 ∧ t.sched.hold = none ∧ t.sched.favoured = none ∧ t.sched.holdBudget = 4)
    ∧ t.sched.late = 0 ∧ t.sched.out = []
    ∧ t.sweep = ⟨none, 0, 1, 0, [], 0⟩
    ∧ (t.ext.link = .down ∧ t.ext.epoch = false ∧ (∀ x : Fin 8, t.ext.xtags[x] = .free) ∧ t.ext.credits = 0
        ∧ t.ext.rotation = .u0 ∧ t.ext.late = 0 ∧ t.ext.out = [])
    ∧ t.engine = .u0
    ∧ t.log = ⟨[], 0, 0, .u0, false⟩
    ∧ ∀ (p : Port) (r : Request), t.classify p r = ⟨none, .default, false, 0, .noTarget, r.priv && p == .u0⟩

/-- The state right after reset meets every invariant that the statements below say each step keeps. -/
def Obligations.ResetMeetsEveryInvariant : Prop :=
  State.reset.CreditsAddUp ∧ State.reset.ActiveTableSound ∧ State.reset.LogNumbered ∧ State.reset.SweepsBounded
    ∧ State.reset.HoldSound ∧ State.reset.XCreditsBounded ∧ State.reset.SettingsInRange ∧ State.reset.TagsUnique
    ∧ State.reset.WorkTied

/-! ### Links -/

/-- R40, R42, R134, R156: a link becomes ready. A DOWN port becomes UP with an empty queue, credit count 8 and one CREDIT 8; M
and X become UP and nothing else of them changes. That the readiness of a link that carries packets already changes nothing is
the model's choice (log entry 4). -/
def Obligations.ReadyLinksCarryPackets : Prop :=
  (∀ (p : Port) (s : State), (s.ports.get p).state = .down →
      exec (.portLinkReady p) s = .next (s.withPort p
          { s.ports.get p with
          state := .up, ingress := [], progress := .examine, cls := none, credits := 8, owed := 0
          out := (s.ports.get p).out ++ [creditPacket 8] }))
    ∧ (∀ (p : Port) (s : State), (s.ports.get p).state ≠ .down → exec (.portLinkReady p) s = .next s)
    ∧ (∀ s : State, exec .mLinkReady s = .next { s with sched := { s.sched with link := .up } })
    ∧ ∀ s : State, exec .xLinkReady s = .next { s with ext := { s.ext with link := .up } }

/-- R43: a port's link is lost. The port enters DOWN with nothing left in it but its rights and discarded count, its tracker
entries become orphans, and LINK_LOST is handed to the log. At a DOWN port it is no event. That the list of packets produced is
emptied is the model's choice (log entry 5). -/
def Obligations.LostPortLinkEmptiesThePort : Prop :=
  (∀ (p : Port) (s : State), (s.ports.get p).state ≠ .down →
      exec (.portLinkLost p) s = .next (State.hand
        { s with
          ports := s.ports.set p
            { state := .down, ingress := [], progress := .examine, cls := none, credits := 0, owed := 0
              postedError := false, rights := (s.ports.get p).rights, discarded := (s.ports.get p).discarded
              barrier := false, out := [] }
          tracker := { s.tracker with
            entries := s.tracker.entries.map fun e => { e with orphan := e.orphan || e.port == p } } }
        { kind := .linkLost, port := some p }))
    ∧ ∀ (p : Port) (s : State), (s.ports.get p).state = .down → exec (.portLinkLost p) s = .next s

/-- R48, R92, R114, R133, R145: the M link is lost. The contributors of the discarded entries are flagged, and every live FLUSH
completes TARGET_ERROR, clears the flag and releases its barrier. A port is sent the completions of its memory reads (in an order
that is left open here; log entry 15), of its owed ACK writes, of its FLUSH and of its waiting head, then the CREDIT and the
NOTICEs. The loss of a link that is DOWN is no event (log entry 4). That the list of packets produced for M is emptied (log entry
5), and that a head which the loss lets go on stays for an advance of its own (log entry 10), is the model's reading. -/
def Obligations.LostMemoryLinkEndsMemoryWork : Prop :=
  (∀ s : State, s.sched.link = .up → s.CreditsAddUp → s.WorkTied →
      let records : List ErrorRecord :=
        (if s.pwq.entries = [] then []
          else [{ kind := .pwqDiscard, target := some .m, count := some s.pwq.entries.length }]) ++ s.lostHeads .waitPwq
      ∃ t, exec .mLinkLost s = .next t
        ∧ t.sched = { s.sched with
            link := .down, epoch := !s.sched.epoch, dtags := Vector.replicate 8 .free, hold := none, out := [] }
        ∧ t.pwq = { s.pwq with entries := [] }
        ∧ t.tracker = { s.tracker with entries := s.tracker.entries.filter fun e => e.isOnX }
        ∧ t.sweep = { s.sweep with queue := [] }
        ∧ t.ext = s.ext ∧ t.regionMap = s.regionMap ∧ t.window = s.window ∧ t.engine = s.engine ∧ t.stamp = s.stamp
        ∧ t.pending = s.pending
        ∧ t.log = (s.handAll records).log
        ∧ (∀ e ∈ s.tracker.entries, (e.isReadM = true ∨ ∃ slot, e.work = .ackM slot) → e.orphan = false →
            (s.ports.get e.port).state = .up →
            completionPacket e.tag .targetDown none [] ∈ (t.ports.get e.port).out)
        ∧ (∀ p, ∃ reads : List Packet,
            reads.Perm (s.completionsFor p (s.tracker.entries.filter fun e => e.isReadM) .targetDown)
              ∧ s.HeadEndsAtLoss t .waitPwq p
                (reads ++ s.completionsFor p (s.owedEntries s.pwq.entries) .targetDown
                  ++ s.completionsFor p (s.tracker.entries.filter fun e => e.isLiveFlush) .targetError)
                records)
        ∧ ∀ p,
          let b := s.ports.get p
          let b' := t.ports.get p
          let flagged := b.postedError = true
            ∨ b.state ≠ .down ∧ ∃ q ∈ s.pwq.entries, q.contributors.get p = true
          ((∀ e ∈ s.tracker.entries, e.port = p → e.isLiveFlush = false) →
              b'.barrier = b.barrier ∧ (b'.postedError = true ↔ flagged ∨ s.HeadDropped .waitPwq p))
            ∧ ∀ e ∈ s.tracker.entries, e.port = p → e.isLiveFlush = true →
              b'.barrier = false ∧ (b'.postedError = true ↔ s.HeadDropped .waitPwq p)
                ∧ (b.state = .up → completionPacket e.tag .targetError none [] ∈ b'.out))
    ∧ ∀ s : State, s.sched.link = .down → exec .mLinkLost s = .next s

/-- R49, R70, R115, R156: the X link is lost. A port is sent the completions of its entries on X in creation order and of its
waiting head, then the CREDIT and the NOTICEs; only a waiting head that is dropped sets its flag. The loss of a link that is
DOWN is no event (log entry 4). That the list of packets produced for X is emptied (log entry 5), and that a head which the loss
lets go on stays for an advance of its own (log entry 10), is the model's reading. -/
def Obligations.LostExtensionLinkEndsExtensionWork : Prop :=
  (∀ s : State, s.ext.link = .up → s.CreditsAddUp →
      ∃ t, exec .xLinkLost s = .next t
        ∧ t.ext = { s.ext with
            link := .down, epoch := !s.ext.epoch, xtags := Vector.replicate 8 .free, credits := 0, out := [] }
        ∧ t.tracker = { s.tracker with entries := s.tracker.entries.filter fun e => !e.isOnX }
        ∧ t.pwq = s.pwq ∧ t.sched = s.sched ∧ t.sweep = s.sweep ∧ t.regionMap = s.regionMap ∧ t.window = s.window
        ∧ t.engine = s.engine ∧ t.stamp = s.stamp ∧ t.pending = s.pending
        ∧ t.log = (s.handAll (s.lostHeads .waitX)).log
        ∧ ∀ p,
          s.HeadEndsAtLoss t .waitX p
              (s.completionsFor p (s.tracker.entries.filter fun e => e.isOnX) .targetDown) (s.lostHeads .waitX)
            ∧ (t.ports.get p).barrier = (s.ports.get p).barrier
            ∧ ((t.ports.get p).postedError = true ↔ (s.ports.get p).postedError = true ∨ s.HeadDropped .waitX p))
    ∧ ∀ s : State, s.ext.link = .down → exec .xLinkLost s = .next s

/-! ### Packets that arrive -/

/-- R40, R41, R45: a request arrives at a port that is UP or DISABLED. That a request of unknown kind counts as non-posted in an
OVERRUN record is the model's reading (log entry 13). -/
def Obligations.ArrivalsJoinTheQueueOrAreDropped : Prop :=
  ∀ (p : Port) (pkt : Packet) (s : State), (Instr.arrival p pkt).wellFormed = true → s.CreditsAddUp →
    let b := s.ports.get p
    let r := Request.ofPacket pkt
    (b.state = .up → b.ingress.length < 8 →
        exec (.arrival p pkt) s = .next (s.withPort p
          { b with ingress := b.ingress ++ [r], credits := b.credits - 1 }))
      ∧ (b.state = .up → b.ingress.length = 8 →
        exec (.arrival p pkt) s = .next (s.hand
          { kind := .overrun, port := some p
            tag := if r.posted = false ∧ r.tag.toNat ≤ 15 then some r.tag else none
            addr := if r.kind = .read ∨ r.kind = .write then some (.bridge r.addr) else none }))
      ∧ (b.state = .disabled →
        exec (.arrival p pkt) s = .next (s.withPort p
          { b with
            discarded := if b.discarded < 65535 then b.discarded + 1 else b.discarded
            out := b.out ++ [creditPacket 1] }))

/-- R39: a packet of a kind its link does not carry toward the bridge is discarded; from M and X it is recorded, from an
upstream link it is not. That the kind codes 8 and 9 fall under R39 upstream and not under R54 is the model's reading (log entry
7). A link that is DOWN delivers nothing, so a packet or request over it is no event (R34; log entry 4). -/
def Obligations.PacketsOutOfPlaceAreDiscarded : Prop :=
  (∀ (l : Link) (pkt : Packet) (s : State), (Instr.packetOutOfPlace l pkt).wellFormed = true → s.NothingOwed →
      match l with
      | .up _ => exec (.packetOutOfPlace l pkt) s = .next s
      | .m =>
        (s.sched.link = .up →
            exec (.packetOutOfPlace l pkt) s = .next (s.hand { kind := .unknownResponse, target := some .m }))
          ∧ (s.sched.link = .down → exec (.packetOutOfPlace l pkt) s = .next s)
      | .x =>
        (s.ext.link = .up →
            exec (.packetOutOfPlace l pkt) s = .next (s.hand { kind := .unknownResponse, target := some .x }))
          ∧ (s.ext.link = .down → exec (.packetOutOfPlace l pkt) s = .next s))
    ∧ ∀ (p : Port) (pkt : Packet) (s : State), (Instr.arrival p pkt).wellFormed = true → s.NothingOwed →
      (s.ports.get p).state = .down → exec (.arrival p pkt) s = .next s

/-- R50: the fields of requests and memory responses are read from the bits of the layout, whatever stands in the bits it leaves
unused, the fields of the packets for X, for M and for requesters stand where it puts them, with 0 in every other bit of word 0,
and the codes are those of section 3.7, and of section 10.2 for FAVOURED. -/
def Obligations.PacketFieldsStandWhereTheLayoutPutsThem : Prop :=
  (∀ (priv : Bool) (j : BitVec 3) (k : BitVec 1) (tag : BitVec 8) (len : BitVec 7) (addr : BitVec 40) (w1 : Option Word64)
      (data : List Byte),
      Request.ofPacket
          ⟨place 0 1#4 ||| place 4 (bit priv) ||| place 5 j ||| place 8 tag ||| place 16 len ||| place 23 k ||| place 24 addr,
            w1, data⟩
        = ⟨.read, priv, false, tag, len.toNat, addr, 0, 0, w1, data⟩)
    ∧ (∀ (priv ack : Bool) (j : BitVec 2) (k : BitVec 1) (tag : BitVec 8) (len : BitVec 7) (addr : BitVec 40)
        (w1 : Option Word64) (data : List Byte),
        Request.ofPacket
            ⟨place 0 2#4 ||| place 4 (bit priv) ||| place 5 (bit ack) ||| place 6 j ||| place 8 tag ||| place 16 len
              ||| place 23 k ||| place 24 addr, w1, data⟩
          = ⟨.write, priv, ack, tag, len.toNat, addr, 0, 0, w1, data⟩)
    ∧ (∀ (j : BitVec 4) (tag : BitVec 8) (k : BitVec 48) (w1 : Option Word64) (data : List Byte),
        Request.ofPacket ⟨place 0 3#4 ||| place 4 j ||| place 8 tag ||| place 16 k, w1, data⟩
          = ⟨.flush, false, false, tag, 0, 0, 0, 0, w1, data⟩)
    ∧ (∀ (j : BitVec 4) (tag : BitVec 8) (obj idx k : BitVec 16) (w1 : Option Word64) (data : List Byte),
        Request.ofPacket ⟨place 0 4#4 ||| place 4 j ||| place 8 tag ||| place 16 obj ||| place 32 idx ||| place 48 k, w1, data⟩
            = ⟨.ctrlRead, false, false, tag, 0, 0, obj.toNat, idx.toNat, w1, data⟩
          ∧ Request.ofPacket ⟨place 0 5#4 ||| place 4 j ||| place 8 tag ||| place 16 obj ||| place 32 idx ||| place 48 k, w1, data⟩
            = ⟨.ctrlWrite, false, false, tag, 0, 0, obj.toNat, idx.toNat, w1, data⟩
          ∧ Request.ofPacket ⟨place 0 6#4 ||| place 4 j ||| place 8 tag ||| place 16 obj ||| place 32 idx ||| place 48 k, w1, data⟩
            = ⟨.ctrlAction, false, false, tag, 0, 0, obj.toNat, 0, w1, data⟩)
    ∧ (∀ (r : Request) (a : BitVec 40) (tag : BitVec 8) (priv : Bool), r.length < 128 →
        r.kind = .read ∧ r.ack = false ∨ r.kind = .write →
        Request.ofPacket (xRequestPacket r a tag priv) = ⟨r.kind, priv, r.ack, tag, r.length, a, 0, 0, none, r.data⟩
          ∧ field (xRequestPacket r a tag priv).word0 6 2 = 0 ∧ (xRequestPacket r a tag priv).word0.getLsbD 23 = false
          ∧ (r.kind = .read → (xRequestPacket r a tag priv).word0.getLsbD 5 = false))
    ∧ (∀ pkt : Packet, field pkt.word0 0 4 = 0 ∨ 7 ≤ (field pkt.word0 0 4).toNat →
        (Request.ofPacket pkt).kind = .unknown (field pkt.word0 0 4) ∧ (Request.ofPacket pkt).tag = field pkt.word0 8 8)
    ∧ (∀ (d : Fin 8) (ep : Bool) (a : BitVec 36) (n : Nat), n < 128 →
        let w := (memReadPacket d ep a n).word0
        field w 0 4 = 1 ∧ (field w 8 3).toNat = d.val ∧ w.getLsbD 11 = ep ∧ (field w 16 7).toNat = n ∧ field w 28 36 = a
          ∧ field w 4 4 = 0 ∧ field w 12 4 = 0 ∧ field w 23 5 = 0
          ∧ (memReadPacket d ep a n).word1 = none ∧ (memReadPacket d ep a n).data = [])
    ∧ (∀ (d : Fin 8) (ep : Bool) (line : BitVec 30) (bytes : LineImage), bytes.length = 64 →
        let pkt := memWritePacket d ep line bytes
        field pkt.word0 0 4 = 2 ∧ (field pkt.word0 8 3).toNat = d.val ∧ pkt.word0.getLsbD 11 = ep
          ∧ field pkt.word0 4 4 = 0 ∧ field pkt.word0 12 16 = 0 ∧ field pkt.word0 28 6 = 0 ∧ field pkt.word0 34 30 = line
          ∧ (∃ mask, pkt.word1 = some mask ∧ ∀ i, i < 64 → (mask.getLsbD i = true ↔ ∃ b, bytes[i]? = some (some b)))
          ∧ pkt.data.length = 64
          ∧ ∀ i, i < 64 → pkt.data[i]? = some ((bytes[i]?.join).getD 0))
    ∧ (∀ (d : Fin 8) (ep : Bool) (row : BitVec 20),
        let w := (memSweepPacket d ep row).word0
        field w 0 4 = 3 ∧ (field w 8 3).toNat = d.val ∧ w.getLsbD 11 = ep ∧ field w 16 20 = row
          ∧ field w 4 4 = 0 ∧ field w 12 4 = 0 ∧ field w 36 28 = 0
          ∧ (memSweepPacket d ep row).word1 = none ∧ (memSweepPacket d ep row).data = [])
    ∧ (∀ pkt : Packet,
        let r := MemResp.ofPacket pkt
        let code := (field pkt.word0 24 2).toNat
        r.dtag.val = (field pkt.word0 8 3).toNat ∧ r.epoch = pkt.word0.getLsbD 11 ∧ r.length = (field pkt.word0 16 7).toNat
          ∧ r.data = pkt.data
          ∧ (r.result = .good ↔ code = 0) ∧ (r.result = .corrected ↔ code = 1) ∧ (r.result = .uncorrectable ↔ code = 2)
          ∧ (r.result = .failed ↔ code = 3))
    ∧ (∀ (tag : BitVec 8) (st : Status) (value : Option Word64) (data : List Byte), data.length < 128 →
        let pkt := completionPacket tag st value data
        let w := pkt.word0
        field w 0 4 = 8 ∧ field w 8 8 = tag ∧ field w 16 4 = st.code ∧ (field w 24 7).toNat = data.length
          ∧ w.getLsbD 31 = value.isSome ∧ field w 4 4 = 0 ∧ field w 20 4 = 0 ∧ field w 32 32 = 0
          ∧ pkt.word1 = value ∧ pkt.data = data)
    ∧ (∀ n : Nat, n < 16 →
        let pkt := creditPacket n
        let w := pkt.word0
        field w 0 4 = 9 ∧ (field w 16 4).toNat = n ∧ field w 4 12 = 0 ∧ field w 20 44 = 0 ∧ pkt.word1 = none ∧ pkt.data = [])
    ∧ (∀ (seq : BitVec 16) (kind : RecordKind) (p : Option Port),
        let pkt := noticePacket seq kind p
        let w := pkt.word0
        field w 0 4 = 10 ∧ field w 16 16 = seq ∧ field w 32 5 = kind.code
          ∧ (field w 40 3).toNat = (match p with | some .u0 => 0 | some .u1 => 1 | some .u2 => 2 | some .u3 => 3 | none => 7)
          ∧ field w 4 12 = 0 ∧ field w 37 3 = 0 ∧ field w 43 21 = 0 ∧ pkt.word1 = none ∧ pkt.data = [])
    ∧ (∀ st : Status, st.code.toNat = match st with
        | .ok => 0 | .refused => 1 | .noTarget => 2 | .targetDown => 3 | .targetError => 4 | .timeout => 5
        | .malformed => 6 | .aborted => 7 | .state => 8 | .invalid => 9)
    ∧ (∀ k : RecordKind, k.code.toNat = match k with
        | .malformed => 1 | .dupTag => 2 | .overrun => 3 | .writeRefused => 4 | .writeTargetDown => 5 | .writeFailed => 6
        | .writeTimeout => 7 | .readFailed => 8 | .readTimeout => 9 | .unknownResponse => 10 | .sweepOverrun => 11
        | .sweepUncorrectable => 12 | .sweepFailed => 13 | .sweepTimeout => 14 | .pwqDiscard => 15 | .warmResetDiscard => 16
        | .linkLost => 17 | .windowChange => 18)
    ∧ (∀ g : RegionTarget, g.code.toNat = match g with | .refuse => 0 | .memory => 1 | .extension => 2)
    ∧ (∀ d : DefaultTarget, d.value.toNat = match d with | .refuse => 0 | .extension => 2)
    ∧ (∀ p : Port, p.code = match p with | .u0 => 0 | .u1 => 1 | .u2 => 2 | .u3 => 3)
    ∧ (∀ f : Option Port, favouredCode f = match f with
        | some .u0 => 0 | some .u1 => 1 | some .u2 => 2 | some .u3 => 3 | none => 4)
    ∧ ∀ a : RecordAddr, match a with
      | .bridge b => a.kindCode.toNat = 1 ∧ a.value.toNat = b.toNat
      | .memory b => a.kindCode.toNat = 2 ∧ a.value.toNat = b.toNat
      | .line b => a.kindCode.toNat = 3 ∧ a.value.toNat = b.toNat
      | .extension b => a.kindCode.toNat = 4 ∧ a.value.toNat = b.toNat
      | .row b => a.kindCode.toNat = 5 ∧ a.value.toNat = b.toNat

/-! ### Admission -/

/-- R54: the table of malformed requests. -/
def Obligations.MalformedRequestsAreThoseOfTheTable : Prop :=
  ∀ r : Request, r.malformed = true ↔
    ((∃ code, r.kind = .unknown code)
      ∨ ((r.kind = .read ∨ r.kind = .flush ∨ r.kind.isControl = true ∨ r.kind = .write ∧ r.ack = true) ∧ 15 < r.tag.toNat)
      ∨ ((r.kind = .read ∨ r.kind = .write) ∧ (r.length = 0 ∨ 64 < r.length))
      ∨ ((r.kind = .read ∨ r.kind = .write) ∧ 64 < r.addr.toNat % 64 + r.length)
      ∨ (r.kind = .write ∧ r.data.length ≠ r.length)
      ∨ ((r.kind = .read ∨ r.kind = .flush ∨ r.kind.isControl = true) ∧ r.data ≠ [])
      ∨ ((r.kind = .ctrlWrite ∨ r.kind = .ctrlAction) ∧ r.word1 = none)
      ∨ ((r.kind = .read ∨ r.kind = .write ∨ r.kind = .flush ∨ r.kind = .ctrlRead) ∧ r.word1 ≠ none))

/-- R53, R55: a malformed head is answered MALFORMED, whether or not the barrier is held; a malformed posted write waits for a
held barrier and is then dropped with a MALFORMED record. -/
def Obligations.MalformedHeadsAreAnsweredOrDropped : Prop :=
  ∀ (p : Port) (r : Request) (s : State), r.malformed = true →
    (r.posted = false → s.HeadAt p r .examine →
        exec (.admissionAdvance p) s = .next (s.afterHead p
          [completionPacket r.tag .malformed (if r.kind.isControl = true then some 0 else none) []]))
      ∧ (r.posted = true → s.HeadAt p r .examine ∨ s.HeadAt p r .waitBarrier → (s.ports.get p).barrier = false →
        exec (.admissionAdvance p) s = .next (State.hand (s.afterDrop p)
          { kind := .malformed, port := some p, addr := some (.bridge r.addr) }))
      ∧ (r.posted = true → s.HeadAt p r .examine → (s.ports.get p).barrier = true →
        exec (.admissionAdvance p) s = .next (s.withPort p
          { s.ports.get p with progress := .waitBarrier, cls := none }))

/-- R56 to R59: a well-formed control request waits for the Engine; behind a held barrier a READ, WRITE or FLUSH waits; a
duplicate tag drops the request with a DUP_TAG record; without room the head waits. -/
def Obligations.EarlyStepsDecideInOrder : Prop :=
  ∀ (p : Port) (r : Request) (s : State), r.malformed = false →
    (r.kind.isControl = true → s.HeadAt p r .examine →
        exec (.admissionAdvance p) s = .next (s.withPort p
          { s.ports.get p with progress := .waitEngine, cls := none }))
      ∧ (r.kind.isControl = false → s.HeadAt p r .examine → (s.ports.get p).barrier = true →
        exec (.admissionAdvance p) s = .next (s.withPort p
          { s.ports.get p with progress := .waitBarrier, cls := none }))
      ∧ (s.HeadAt p r .examine ∨ s.HeadAt p r .waitBarrier → (s.ports.get p).barrier = false → r.needsRoom = true →
        s.TagTaken p r.tag →
        exec (.admissionAdvance p) s = .next (State.hand (s.afterHead p [])
          { kind := .dupTag, port := some p, tag := some r.tag
            addr := if r.kind = .flush then none else some (.bridge r.addr) }))
      ∧ (s.HeadAt p r .examine ∨ s.HeadAt p r .waitBarrier → (s.ports.get p).barrier = false → r.needsRoom = true →
        ¬s.TagTaken p r.tag → ¬s.RoomFor p →
        exec (.admissionAdvance p) s = .next (s.withPort p
          { s.ports.get p with progress := .waitRoom, cls := none }))

/-- R61, R62, R64: at steps 7 to 9 a READ or WRITE that is refused, has no target or whose target is DOWN is answered or
dropped, and one for X waits in WAIT_X with its classification. -/
def Obligations.AccessVerdictsAndTargetLinksDecide : Prop :=
  ∀ (p : Port) (r : Request) (s : State), s.PassesRoom p r → r.kind.isAccess = true →
    let c := s.classify p r
    let record : RecordKind → ErrorRecord := fun kind =>
      { kind := kind, port := some p, addr := some (.bridge r.addr), target := c.dest.map Dest.target
        region := some (c.region, c.generation) }
    (c.verdict = .refused →
        exec (.admissionAdvance p) s = .next
          (if r.posted = true then State.hand (s.afterDrop p) (record .writeRefused)
          else s.afterHead p [completionPacket r.tag .refused none []]))
      ∧ (c.verdict = .noTarget →
        exec (.admissionAdvance p) s = .next
          (if r.posted = true then State.hand (s.afterDrop p) (record .writeRefused)
          else s.afterHead p [completionPacket r.tag .noTarget none []]))
      ∧ (∀ d, c.verdict = .permitted → c.dest = some d → s.linkOf d = .down →
        exec (.admissionAdvance p) s = .next
          (if r.posted = true then State.hand (s.afterDrop p) (record .writeTargetDown)
          else s.afterHead p [completionPacket r.tag .targetDown none []]))
      ∧ ∀ a, c.verdict = .permitted → c.dest = some (.extension a) → s.ext.link = .up →
        exec (.admissionAdvance p) s = .next (s.withPort p
          { s.ports.get p with progress := .waitX, cls := some c })

/-- R63, R87, R88, R96: a READ that reaches M is answered from the youngest entry of its line when that holds every byte, is
held on it when it lacks one, and is READY when no entry holds the line. -/
def Obligations.ReadsAreHitHeldOrReady : Prop :=
  ∀ (p : Port) (r : Request) (c : Classification) (a : BitVec 36) (s : State),
    s.ReachesMemory p r c a → r.kind = .read → s.QueueOrdered →
    ((∀ q ∈ s.pwq.entries, q.line ≠ lineOf a) →
        exec (.admissionAdvance p) s = .next (State.afterHead
          (s.addEntry p r.tag (.readM a r.length c.region c.generation) .ready) p []))
      ∧ ∀ (older younger : List PwqEntry) (q : PwqEntry), s.pwq.entries = older ++ q :: younger → q.line = lineOf a →
        (∀ f ∈ younger, f.line ≠ lineOf a) →
        (∀ data : List Byte, data.length = r.length →
            (∀ i, i < r.length → q.bytes[lineOffset a + i]? = some (data[i]?)) →
            exec (.admissionAdvance p) s = .next (State.afterHead (s.withPwq (older ++ q.seal :: younger)) p
              [completionPacket r.tag .ok none data]))
          ∧ ((∃ i, i < r.length ∧ ∀ b, q.bytes[lineOffset a + i]? ≠ some (some b)) →
            exec (.admissionAdvance p) s = .next (State.afterHead
              ((s.withPwq (older ++ q.seal :: younger)).addEntry p r.tag (.readM a r.length c.region c.generation)
                (.held q.slot)) p []))

/-- R65, R66, R73 to R75: a WRITE that reaches M is merged into an OPEN tail of its line when both combine, is appended behind
it otherwise, and waits in WAIT_PWQ when it can do neither. -/
def Obligations.WritesMergeAppendOrWait : Prop :=
  ∀ (p : Port) (r : Request) (c : Classification) (a : BitVec 36) (s : State),
    s.ReachesMemory p r c a → r.kind = .write →
    let bytes := LineImage.ofWrite (lineOffset a) r.data
    let owed := if r.ack = true then [s.freeIndex] else []
    let withAck : State → Fin 16 → State := fun t slot =>
      if r.ack = true then t.addEntry p r.tag (.ackM slot) .waiting else t
    (∀ (older : List PwqEntry) (q : PwqEntry), s.pwq.entries = older ++ [q] →
        q.isOpen = true → q.line = lineOf a → q.combine = true → c.combine = true →
        let merged : PwqEntry :=
          { q with
            bytes := LineImage.merge bytes q.bytes
            contributors := q.contributors.set p true
            owed := q.owed ++ owed
            state :=
              if r.ack = true ∨ LineImage.full (LineImage.merge bytes q.bytes) = true then .sealed else q.state }
        exec (.admissionAdvance p) s = .next (State.afterHead (withAck (s.withPwq (older ++ [merged])) q.slot) p []))
      ∧ ((∀ q ∈ s.pwq.entries.getLast?, ¬(q.isOpen = true ∧ q.line = lineOf a ∧ q.combine = true ∧ c.combine = true)) →
        (s.pwq.entries.length < 16 →
            let appended : PwqEntry :=
              { slot := s.freeSlot, line := lineOf a, bytes := bytes
                contributors := (PerPort.const false).set p true
                owed := owed, combine := c.combine, region := c.region, generation := c.generation
                state :=
                  if c.combine = true ∧ 0 < s.pwq.combineWindow ∧ r.ack = false ∧ LineImage.full bytes = false then
                    .openFor s.pwq.combineWindow
                  else .sealed
                stamp := s.stamp }
            exec (.admissionAdvance p) s = .next (State.afterHead
              (withAck { s.withPwq (s.pwq.entries.map PwqEntry.seal ++ [appended]) with stamp := s.stamp + 1 } s.freeSlot)
              p []))
          ∧ (16 ≤ s.pwq.entries.length →
            exec (.admissionAdvance p) s = .next (s.withPort p
          { s.ports.get p with progress := .waitPwq, cls := some c })))

/-- R73: at a merge each byte that the write carries replaces the byte at its position and sets its flag, and every other byte
and flag of the line stays. -/
def Obligations.MergedBytesReplaceAndOthersStay : Prop :=
  ∀ (old : LineImage) (offset : Nat) (data : List Byte), old.length = 64 → offset + data.length ≤ 64 →
    let l := LineImage.merge (LineImage.ofWrite offset data) old
    l.length = 64
      ∧ (∀ i, i < data.length → l[offset + i]? = some (data[i]?))
      ∧ (∀ i, i < offset ∨ offset + data.length ≤ i → l[i]? = old[i]?)
      ∧ (LineImage.full l = true ↔ ∀ i, i < 64 → ∃ b, l[i]? = some (some b))

/-- R67, R110: a FLUSH that awaits no entry completes at once by its port's flag, which it clears; otherwise it waits for the
entries its port contributed to, seals an OPEN one among them and holds the barrier. -/
def Obligations.FlushesCompleteOrHoldTheBarrier : Prop :=
  ∀ (p : Port) (r : Request) (s : State), s.PassesRoom p r → r.kind = .flush →
    let awaited := (s.pwq.entries.filter fun q => q.contributors.get p).map fun q => q.slot
    (awaited = [] →
        exec (.admissionAdvance p) s = .next (s.modPort p fun b =>
          { b.afterHead [completionPacket r.tag (if b.postedError = true then .targetError else .ok) none []] with
            postedError := false }))
      ∧ (awaited ≠ [] →
        exec (.admissionAdvance p) s = .next
          (((s.withPwq (s.pwq.entries.map fun q => if q.contributors.get p = true then q.seal else q)).addEntry p r.tag
              (.flush awaited) .waiting).modPort p fun b => { b.afterHead [] with barrier := true }))

/-- R51, R52, R59, R65, R68: a head whose wait has not ended, and a port without a head, are left as they are (no advance takes
place; log entry 4); a barrier's release lets the head go on as if it had just been examined. That room alone, and no merge,
lets a WAIT_PWQ head go on is the model's reading (log entry 14). -/
def Obligations.WaitingHeadsStayUntilTheirWaitEnds : Prop :=
  (∀ (p : Port) (s : State), s.NothingOwed →
      (s.ports.get p).state ≠ .up ∨ (s.ports.get p).ingress = [] →
      exec (.admissionAdvance p) s = .next s)
    ∧ (∀ (p : Port) (r : Request) (s : State),
        (s.HeadAt p r .waitEngine ∨ s.HeadAt p r .waitX
          ∨ (s.HeadAt p r .waitBarrier ∧ (s.ports.get p).barrier = true)
          ∨ (s.HeadAt p r .waitRoom ∧ ¬s.RoomFor p)
          ∨ (s.HeadAt p r .waitPwq ∧ (16 ≤ s.pwq.entries.length ∨ r.posted = false ∧ ¬s.RoomFor p))) →
        exec (.admissionAdvance p) s = .next s)
    ∧ ∀ (p : Port) (r : Request) (s : State), s.HeadAt p r .waitBarrier → (s.ports.get p).barrier = false →
        exec (.admissionAdvance p) s
          = exec (.admissionAdvance p) (s.withPort p
          { s.ports.get p with progress := .examine, cls := none })

/-! ### Classification -/

/-- R24 to R27: a request whose page lies in the window range is taken by the window when it is privileged, or the window is
OPEN and its port has the window right, and it goes to the page that the descriptor gives; every other request goes to the
lookup. That the window memory lies in the memory space is kept by every step (EveryStepKeepsSettingsAndCountersInRange). -/
def Obligations.TheWindowTakesWhatItsTableSays : Prop :=
  ∀ (p : Port) (r : Request) (s : State),
    let d := s.window.desc
    let page := (pageOf r.addr).toNat
    let privileged := r.priv && (s.ports.get p).rights.privilege
    let takes := (d.base.toNat ≤ page ∧ page < d.base.toNat + d.size)
      ∧ (privileged = true ∨ s.window.state = .opened ∧ (s.ports.get p).rights.window = true)
    (takes → d.memBase.toNat + d.size ≤ 2 ^ 24 →
        ∃ a : BitVec 36, a.toNat = (d.memBase.toNat + (page - d.base.toNat)) * 4096 + r.addr.toNat % 4096
          ∧ s.classify p r = ⟨some (.memory a), .window, false, s.regionMap.generation, .permitted, privileged⟩)
      ∧ (¬takes → s.classify p r = s.regionMap.lookup p r.addr (r.kind == .write) privileged)

/-- R4 to R8, R10, R11: the lowest-index valid entry whose range contains the page gives target, translated address, verdict and
combine value, and without one the default target does. In a table that passed the commit checks no translated address wraps. -/
def Obligations.TheLowestMatchingEntryDecides : Prop :=
  ∀ (m : RegionMap) (p : Port) (addr : BitVec 40) (isWrite privileged : Bool), m.active.commitFailure = none →
    let page := (pageOf addr).toNat
    let holds : Fin 32 → Prop := fun i =>
      (m.active.entries[i]).valid = true ∧ (m.active.entries[i]).base.toNat ≤ page
        ∧ page ≤ (m.active.entries[i]).limit.toNat
    let c := m.lookup p addr isWrite privileged
    (∀ i : Fin 32, holds i → (∀ j : Fin 32, j < i → ¬holds j) →
        let e := m.active.entries[i]
        let target : Int := ((page : Int) + e.offset.toInt) * 4096 + ((addr.toNat % 4096 : Nat) : Int)
        let flag := if isWrite = true then e.write.get p else e.read.get p
        c.region = .entry i ∧ c.generation = m.generation ∧ c.privileged = privileged
          ∧ (e.target = .refuse → c.dest = none ∧ c.verdict = .refused ∧ c.combine = false)
          ∧ (e.target = .memory →
              (∃ a : BitVec 36, c.dest = some (.memory a) ∧ (a.toNat : Int) = target) ∧ c.combine = e.combine
                ∧ c.verdict = if flag = true then .permitted else .refused)
          ∧ (e.target = .extension →
              (∃ a : BitVec 40, c.dest = some (.extension a) ∧ (a.toNat : Int) = target) ∧ c.combine = false
                ∧ c.verdict = if flag = true then .permitted else .refused))
      ∧ ((∀ i : Fin 32, ¬holds i) →
        c = match m.active.default with
          | .refuse => ⟨none, .default, false, m.generation, .noTarget, privileged⟩
          | .extension => ⟨some (.extension addr), .default, false, m.generation, .permitted, privileged⟩)

/-! ### The extension port -/

/-- R148 to R150, R152, R153: a credit grant forwards the head of the first credit candidate from the rotation pointer on; a
posted write leaves nothing behind, a READ or ACK write takes the lowest free xtag and an ISSUED tracker entry. Without a
credit, a candidate or the link there is no grant (log entry 4). -/
def Obligations.CreditGrantsForwardOneHead : Prop :=
  (∀ (p : Port) (r : Request) (c : Classification) (a : BitVec 40) (s : State),
      s.ext.link = .up → 0 < s.ext.credits → s.WaitsForCredit p r c a →
      (∀ q ∈ s.ext.rotation.fromHere.takeWhile fun q => q ≠ p, ∀ r' c' a', ¬s.WaitsForCredit q r' c' a') →
      (r.posted = true →
          exec .creditGrant s = .next (State.afterHead
            { s with ext := { s.ext with
                credits := s.ext.credits - 1, rotation := p.next
                out := s.ext.out ++ [xRequestPacket r a 0 c.privileged] } } p []))
        ∧ ∀ x : Fin 8, r.posted = false → s.ext.xtags[x] = .free → (∀ y : Fin 8, y < x → s.ext.xtags[y] ≠ .free) →
          exec .creditGrant s = .next (State.afterHead
            (State.addEntry
              { s with ext := { s.ext with
                  credits := s.ext.credits - 1, rotation := p.next
                  xtags := s.ext.xtags.set x (.allocated s.freeIndex)
                  out := s.ext.out
                    ++ [xRequestPacket r a (BitVec.ofNat 8 (x.val + 8 * s.ext.epoch.toNat)) c.privileged] } }
              p r.tag
              (if r.kind = .write then .ackX a c.region c.generation else .readX a r.length c.region c.generation)
              (.issued x s.ext.epoch s.tracker.timeoutX)) p []))
    ∧ ∀ s : State, s.NothingOwed →
      s.ext.link = .down ∨ s.ext.credits = 0 ∨ (∀ q r c a, ¬s.WaitsForCredit q r c a) →
      exec .creditGrant s = .next s

/-- R148: a CREDIT from X with a count of 1 to 8 raises the credit count, which stops at 8; any other count is discarded and
recorded. Over a link that is DOWN nothing arrives (log entry 4). That a CREDIT is taken by its count alone, whatever bytes it
carries, is the model's choice (log entry 12). -/
def Obligations.ExtensionCreditsAddUpToEight : Prop :=
  ∀ (pkt : Packet) (s : State), (Instr.xCredit pkt).wellFormed = true →
    let n := (field pkt.word0 16 4).toNat
    (s.ext.link = .up → 1 ≤ n → n ≤ 8 →
        exec (.xCredit pkt) s = .next { s with ext := { s.ext with credits := min 8 (s.ext.credits + n) } })
      ∧ (s.ext.link = .up → n = 0 ∨ 8 < n →
        exec (.xCredit pkt) s = .next (s.hand { kind := .unknownResponse, target := some .x }))
      ∧ (s.ext.link = .down → exec (.xCredit pkt) s = .next s)

/-- R105 to R107, R154: a completion from X is taken by the entry that its xtag names, or is discarded by the first case that
applies to it. Over a link that is DOWN nothing arrives (R34; log entry 4). That the data length field and the bytes carried must
both be right is the model's choice (log entry 12), and that a WAIT_ROOM head stays for an advance of its own its reading (log
entry 10). -/
def Obligations.ExtensionCompletionsEndTheirEntryOrAreDiscarded : Prop :=
  (∀ (pkt : Packet) (s : State), (Instr.xCompletion pkt).wellFormed = true → s.ext.link = .up →
      let tag := (field pkt.word0 8 8).toNat
      let status := (field pkt.word0 16 4).toNat
      let carries : Nat → Prop := fun n => (field pkt.word0 24 7).toNat = n ∧ pkt.data.length = n
      let free : Fin 8 → XtagState → Extension := fun x st => { s.ext with xtags := s.ext.xtags.set x st }
      let unknown : Option Nat → ErrorRecord := fun x =>
        { kind := .unknownResponse, target := some .x, tag := x.map (BitVec.ofNat 8) }
      (15 < tag → exec (.xCompletion pkt) s = .next (s.hand (unknown none)))
        ∧ ∀ (x : Fin 8) (ep : Bool), tag = x.val + 8 * ep.toNat →
          (ep ≠ s.ext.epoch → exec (.xCompletion pkt) s = .next s)
            ∧ (ep = s.ext.epoch →
              (s.ext.xtags[x] = .free → exec (.xCompletion pkt) s = .next (s.hand (unknown (some x.val))))
                ∧ (s.ext.xtags[x] = .stale →
                  exec (.xCompletion pkt) s = .next { s with ext := { free x .free with
                    late := if s.ext.late < 65535 then s.ext.late + 1 else s.ext.late } })
                ∧ ∀ (i : Fin 24) (e : TrackerEntry), s.ext.xtags[x] = .allocated i → s.entryAt i = some e →
                  (∀ a n g gen, e.work = .readX a n g gen →
                      (status = 0 → carries n →
                          exec (.xCompletion pkt) s = .next { s with
                            ext := free x .free, tracker := s.tracker.without e, ports := s.answered e .ok pkt.data })
                        ∧ (status ≠ 0 → carries 0 →
                          exec (.xCompletion pkt) s = .next (State.hand
                            { s with
                              ext := free x .free, tracker := s.tracker.without e, ports := s.answered e .targetError [] }
                            { kind := .readFailed, port := some e.port, tag := some e.tag, addr := some (.extension a)
                              target := some .x, region := some (g, gen) }))
                        ∧ (¬carries (if status = 0 then n else 0) →
                          exec (.xCompletion pkt) s = .next (s.hand (unknown (some x.val)))))
                    ∧ ∀ a g gen, e.work = .ackX a g gen →
                      (status = 0 → carries 0 →
                          exec (.xCompletion pkt) s = .next { s with
                            ext := free x .free, tracker := s.tracker.without e, ports := s.answered e .ok pkt.data })
                        ∧ (status ≠ 0 → carries 0 →
                          exec (.xCompletion pkt) s = .next (State.hand
                            { s with
                              ext := free x .free, tracker := s.tracker.without e, ports := s.answered e .targetError [] }
                            { kind := .writeFailed, port := some e.port, tag := some e.tag, addr := some (.extension a)
                              target := some .x, region := some (g, gen) }))
                        ∧ (¬carries 0 → exec (.xCompletion pkt) s = .next (s.hand (unknown (some x.val))))))
    ∧ ∀ (pkt : Packet) (s : State), (Instr.xCompletion pkt).wellFormed = true → s.ext.link = .down →
      exec (.xCompletion pkt) s = .next s

/-! ### The memory port -/

/-- R123, R119, R126, R142: an arbitration with M UP, a free dtag and a candidate grants the winner of the decision the lowest
free dtag, issues its command and moves the slot counter; otherwise there is no arbitration and nothing changes (log entry 4). -/
def Obligations.ArbitrationIssuesOneCommand : Prop :=
  (∀ (s : State) (d : Fin 8) (how : Deciding), s.sched.link = .up → s.sched.dtags[d] = .free →
      (∀ y : Fin 8, y < d → s.sched.dtags[y] ≠ .free) →
      let slotUp := if s.sched.slotCounter < 3 then s.sched.slotCounter + 1 else s.sched.slotCounter
      (∀ (e : TrackerEntry) (a : BitVec 36) (n : Nat) (g : RegionIndex) (gen : BitVec 8),
          s.decision = some (how, .port e) → e.work = .readM a n g gen →
          exec .arbitration s = .next { s with
            tracker := { s.tracker with entries := s.tracker.entries.map fun f =>
              if f.index = e.index then { f with state := .issued d s.sched.epoch s.tracker.timeoutM } else f }
            sched := { s.sched with
              dtags := s.sched.dtags.set d (.read e.index n)
              out := s.sched.out ++ [memReadPacket d s.sched.epoch a n]
              slotCounter := if s.sched.favoured = some e.port then 0 else slotUp
              hold := s.sched.holdAfter how, rotation := s.sched.rotationAfter how } })
        ∧ (∀ q : PwqEntry, s.decision = some (how, .pwq q) →
          exec .arbitration s = .next { s with
            pwq := { s.pwq with entries := s.pwq.entries.map fun f =>
              if f.slot = q.slot then { f with state := .issued d s.tracker.timeoutM } else f }
            sched := { s.sched with
              dtags := s.sched.dtags.set d (.write q.slot)
              out := s.sched.out ++ [memWritePacket d s.sched.epoch q.line q.bytes]
              slotCounter := slotUp, hold := s.sched.holdAfter how, rotation := s.sched.rotationAfter how } })
        ∧ ∀ row : BitVec 20, s.decision = some (how, .sweep row) →
          exec .arbitration s = .next { s with
            sweep := { s.sweep with queue := s.sweep.queue.tail }
            sched := { s.sched with
              dtags := s.sched.dtags.set d (.sweep row s.tracker.timeoutM)
              out := s.sched.out ++ [memSweepPacket d s.sched.epoch row]
              hold := s.sched.holdAfter how, rotation := s.sched.rotationAfter how } })
    ∧ ∀ s : State, s.sched.link = .down ∨ (∀ d : Fin 8, s.sched.dtags[d] ≠ .free) ∨ s.decision = none →
      exec .arbitration s = .next s

/-- R124, R125, R127, R128: the first step whose condition holds names the winner, from the candidates of the parties; a hold
starts at step 3, goes on at step 2 and ends at any other; the rotation moves past the winner of step 5 alone. -/
def Obligations.TheFirstStepThatHoldsDecides : Prop :=
  (∀ s : State,
      let favourite := s.sched.favoured.bind s.portCandidate
      let atStep2or3 := favourite.isSome = true ∧ (s.sched.hold.isSome = true ∨ s.sched.slotCounter = 3)
      (∀ row rest, s.sweep.queue = row :: rest → 4 ≤ s.sweep.queue.length →
          s.decision = some (.fullSweep, .sweep row))
        ∧ (s.sweep.queue.length < 4 →
          (∀ e, favourite = some e → s.sched.hold.isSome = true → s.decision = some (.hold, .port e))
            ∧ (∀ e, favourite = some e → s.sched.hold = none → s.sched.slotCounter = 3 →
              s.decision = some (.slot, .port e))
            ∧ (¬atStep2or3 →
              (∀ q, s.pwqCandidate = some q → s.pwq.watermark ≤ s.pwq.entries.length →
                  s.decision = some (.urgent, .pwq q))
                ∧ ((s.pwqCandidate = none ∨ s.pwq.entries.length < s.pwq.watermark) →
                  (∀ m w, m ∈ s.sched.rotation.fromHere → s.candidate m = some w →
                      (∀ m' ∈ s.sched.rotation.fromHere.takeWhile fun m' => m' ≠ m, s.candidate m' = none) →
                      s.decision = some (.rotation m, w))
                    ∧ ((∀ m, s.candidate m = none) →
                      s.decision = s.sweep.queue.head?.map fun row => (.idleSweep, .sweep row))))))
    ∧ (∀ (s : State) (p : Port), s.candidate (.port p) = (s.portCandidate p).map .port)
    ∧ (∀ s : State, s.candidate .pwq = s.pwqCandidate.map .pwq)
    ∧ (∀ (s : State) (p : Port) (e : TrackerEntry), s.portCandidate p = some e ↔
        ∃ older younger, s.tracker.entries = older ++ e :: younger ∧ e.port = p ∧ e.isReadM = true ∧ e.state = .ready
          ∧ ∀ f ∈ older, ¬(f.port = p ∧ f.isReadM = true ∧ f.state = .ready))
    ∧ (∀ (s : State) (q : PwqEntry), s.pwqCandidate = some q ↔
        (∃ older younger, s.pwq.entries = older ++ q :: younger ∧ ∀ f ∈ older, f.isIssued = true)
          ∧ q.state = .sealed
          ∧ (∀ f ∈ s.pwq.entries, f.isIssued = true → f.line ≠ q.line)
          ∧ ∀ e ∈ s.tracker.entries, e.line = some q.line → e.stamp < q.stamp → e.orphan = false →
            (∀ slot, e.state ≠ .held slot) ∧ e.state ≠ .ready)
    ∧ ∀ m : Scheduler,
      (∀ n, m.hold = some n → m.holdAfter .hold = if n ≤ 1 then none else some (n - 1))
        ∧ m.holdAfter .slot = (if m.holdBudget ≤ 1 then none else some (m.holdBudget - 1))
        ∧ m.holdAfter .fullSweep = none ∧ m.holdAfter .urgent = none ∧ m.holdAfter .idleSweep = none
        ∧ (∀ q, m.holdAfter (.rotation q) = none ∧ m.rotationAfter (.rotation q) = q.next)
        ∧ m.rotationAfter .fullSweep = m.rotation ∧ m.rotationAfter .hold = m.rotation
        ∧ m.rotationAfter .slot = m.rotation ∧ m.rotationAfter .urgent = m.rotation
        ∧ m.rotationAfter .idleSweep = m.rotation

/-- R129: over any run of commands, when FAVOURED names a port and that port keeps a READY memory read throughout four or more
non-sweep grants, at least one of the grants goes to that port. -/
def Obligations.TheFavouredPortWinsOneOfFourGrants : Prop :=
  ∀ (fav : Port) (run : Nat → State) (cmd : Nat → Instr) (n : Nat),
    (run 0).sched.slotCounter ≤ 3 →
    (∀ i, i < n → exec (cmd i) (run i) = .next (run (i + 1))) →
    (∀ i, i < n → (run i).sched.favoured = some fav ∧ ((run i).portCandidate fav).isSome = true) →
    4 ≤ ((List.range n).filter fun i => (run i).grantsNonSweep (cmd i)).length →
    ∃ i e, i < n ∧ cmd i = .arbitration ∧ (run i).granted = some (.port e) ∧ e.port = fav

/-- R105, R106, R120: a response that an ISSUED read takes frees its dtag and ends it, OK with the data or TARGET_ERROR with a
READ_FAILED record. That a WAIT_ROOM head stays for an advance of its own is the model's reading (log entry 10). -/
def Obligations.MemoryResponsesEndReads : Prop :=
  ∀ (pkt : Packet) (s : State) (i : Fin 24) (e : TrackerEntry) (n m : Nat) (a : BitVec 36) (g : RegionIndex) (gen : BitVec 8),
    (Instr.memResp pkt).wellFormed = true → s.sched.link = .up →
    let resp := MemResp.ofPacket pkt
    let after : State := { s with
      sched := { s.sched with dtags := s.sched.dtags.set resp.dtag .free }
      tracker := s.tracker.without e }
    resp.epoch = s.sched.epoch → s.sched.dtags[resp.dtag] = .read i n → s.entryAt i = some e → e.work = .readM a m g gen →
    (resp.result = .good → resp.length = n → pkt.data.length = n →
        exec (.memResp pkt) s = .next { after with ports := s.answered e .ok pkt.data })
      ∧ (resp.result = .corrected → resp.length = n → pkt.data.length = n →
        exec (.memResp pkt) s = .next { after with
          ports := s.answered e .ok pkt.data
          sweep := { s.sweep with
            corrected := if s.sweep.corrected < 2 ^ 32 - 1 then s.sweep.corrected + 1 else s.sweep.corrected } })
      ∧ (resp.result = .uncorrectable ∨ resp.result = .failed → resp.length = 0 → pkt.data.length = 0 →
        exec (.memResp pkt) s = .next (State.hand { after with ports := s.answered e .targetError [] }
          { kind := .readFailed, port := some e.port, tag := some e.tag, addr := some (.memory a), target := some .m
            region := some (g, gen) }))

/-- R143: a response that a sweep takes frees its dtag and counts or records its result. -/
def Obligations.MemoryResponsesEndSweeps : Prop :=
  ∀ (pkt : Packet) (s : State) (row : BitVec 20) (timer : Nat),
    (Instr.memResp pkt).wellFormed = true → s.sched.link = .up →
    let resp := MemResp.ofPacket pkt
    let after : State := { s with sched := { s.sched with dtags := s.sched.dtags.set resp.dtag .free } }
    let record : RecordKind → ErrorRecord := fun kind => { kind := kind, target := some .m, addr := some (.row row) }
    resp.epoch = s.sched.epoch → s.sched.dtags[resp.dtag] = .sweep row timer → resp.length = 0 → pkt.data.length = 0 →
    (resp.result = .good → exec (.memResp pkt) s = .next after)
      ∧ (resp.result = .corrected → exec (.memResp pkt) s = .next { after with
          sweep := { s.sweep with
            corrected := if s.sweep.corrected < 2 ^ 32 - 1 then s.sweep.corrected + 1 else s.sweep.corrected } })
      ∧ (resp.result = .uncorrectable → exec (.memResp pkt) s = .next (after.hand (record .sweepUncorrectable)))
      ∧ (resp.result = .failed → exec (.memResp pkt) s = .next (after.hand (record .sweepFailed)))

/-- R105, R107, R120, R122: a response with the old epoch vanishes, one to a free dtag or of the wrong shape is recorded and
changes nothing else, and a late one frees its dtag and is counted. Over a link that is DOWN nothing arrives (log entry 4). That
the data length field and the bytes carried must both be right is the model's choice (log entry 12). -/
def Obligations.OtherMemoryResponsesAreDiscarded : Prop :=
  ∀ (pkt : Packet) (s : State), (Instr.memResp pkt).wellFormed = true →
    let resp := MemResp.ofPacket pkt
    let d := resp.dtag
    let unknown : ErrorRecord := { kind := .unknownResponse, target := some .m, tag := some (BitVec.ofNat 8 d.val) }
    let carries : Nat → Prop := fun n => resp.length = n ∧ pkt.data.length = n
    (s.sched.link = .down → exec (.memResp pkt) s = .next s)
      ∧ (s.sched.link = .up →
        (resp.epoch ≠ s.sched.epoch → exec (.memResp pkt) s = .next s)
          ∧ (resp.epoch = s.sched.epoch →
            (s.sched.dtags[d] = .free → exec (.memResp pkt) s = .next (s.hand unknown))
              ∧ (s.sched.dtags[d] = .stale →
                exec (.memResp pkt) s = .next { s with sched := { s.sched with
                  dtags := s.sched.dtags.set d .free
                  late := if s.sched.late < 65535 then s.sched.late + 1 else s.sched.late } })
              ∧ (∀ i n, s.sched.dtags[d] = .read i n →
                ¬carries (if resp.result = .good ∨ resp.result = .corrected then n else 0) →
                exec (.memResp pkt) s = .next (s.hand unknown))
              ∧ (∀ slot, s.sched.dtags[d] = .write slot → ¬carries 0 →
                exec (.memResp pkt) s = .next (s.hand unknown))
              ∧ ∀ row timer, s.sched.dtags[d] = .sweep row timer → ¬carries 0 →
                exec (.memResp pkt) s = .next (s.hand unknown)))

/-! ### The Posted Write Queue -/

/-- R82 to R86, R89, R90, R101: an ISSUED entry removed by its response or its expiry leaves the queue; its owed ACK write
completes, every FLUSH loses it, the reads held on it become READY, and a failure is recorded and flags its contributors. A port is
sent the completion of the owed ACK write, then of the FLUSH that the removal ends, then the NOTICE, and nothing else (R182). That
a waiting head which the removal lets go on stays for an advance of its own is the model's reading (log entry 10). -/
def Obligations.RemovedEntriesReleaseWhatWaitedForThem : Prop :=
  ∀ (s : State) (q : PwqEntry) (d : Fin 8) (timer : Nat) (c : Instr) (failed : Option RecordKind) (left : DtagState)
    (corrected : Bool),
    s.WorkTied → q ∈ s.pwq.entries → q.state = .issued d timer → QueueEntryEnds s q d c failed left corrected →
    let records : List ErrorRecord := failed.toList.map fun kind =>
      { kind := kind, addr := some (.line q.line), target := some .m, region := some (q.region, q.generation)
        contributors := some q.contributors }
    ∃ t, exec c s = .next t
      ∧ t.pwq = { s.pwq with entries := s.pwq.entries.filter fun f => f.slot ≠ q.slot }
      ∧ t.sched = { s.sched with dtags := s.sched.dtags.set d left }
      ∧ t.tracker = { s.tracker with entries := s.tracker.entries.filterMap fun e => e.afterRemoval q.slot }
      ∧ t.sweep = { s.sweep with corrected :=
          if corrected = true ∧ s.sweep.corrected < 2 ^ 32 - 1 then s.sweep.corrected + 1 else s.sweep.corrected }
      ∧ t.log = (s.handAll records).log
      ∧ t.regionMap = s.regionMap ∧ t.window = s.window ∧ t.ext = s.ext ∧ t.engine = s.engine ∧ t.pending = s.pending
      ∧ t.stamp = s.stamp
      ∧ ∀ p,
        let b := s.ports.get p
        let b' := t.ports.get p
        let flag := b.postedError = true ∨ failed.isSome = true ∧ q.contributors.get p = true ∧ b.state ≠ .down
        PortBlock.SameQueue b b'
          ∧ b'.out = b.out ++ s.completionsFor p (s.owedEntries [q]) (owedStatus failed)
              ++ s.completionsFor p (s.tracker.entries.filter fun e => e.isLiveFlush && (e.afterRemoval q.slot).isNone)
                (if flag then .targetError else .ok)
              ++ s.notices p records
          ∧ (∀ e ∈ s.tracker.entries, e.work = .ackM q.slot → e.port = p → e.orphan = false → b.state = .up →
              completionPacket e.tag (owedStatus failed) none [] ∈ b'.out)
          ∧ ((∀ e ∈ s.tracker.entries, e.port = p → e.orphan = false → ∀ awaited, e.work = .flush awaited →
                awaited.all (· = q.slot) = false) →
              b'.barrier = b.barrier ∧ (b'.postedError = true ↔ flag))

/-- R82, R110, R182: the live FLUSH of a port whose last awaited entry is removed completes, reports the port's flag as the removal
left it, so the failure of that very entry too, clears the flag and releases the barrier. Its completion is the port's only one
behind that of the ACK write which the entry owes, and the NOTICE comes last. That a port has one live FLUSH at most is kept by
every step (EveryStepKeepsWorkTied). That the port's head in WAIT_BARRIER, which the release lets go on, stays for an advance of
its own and so adds no packet here is the model's reading (log entry 10). -/
def Obligations.FlushesReportTheFailureThatEndsThem : Prop :=
  ∀ (s : State) (q : PwqEntry) (d : Fin 8) (timer : Nat) (c : Instr) (failed : Option RecordKind) (left : DtagState)
    (corrected : Bool) (e : TrackerEntry) (awaited : List (Fin 16)),
    s.WorkTied → q ∈ s.pwq.entries → q.state = .issued d timer → QueueEntryEnds s q d c failed left corrected →
    e ∈ s.tracker.entries → e.work = .flush awaited → awaited.all (· = q.slot) = true → e.orphan = false →
    let b := s.ports.get e.port
    let flag := b.postedError = true ∨ failed.isSome = true ∧ q.contributors.get e.port = true ∧ b.state ≠ .down
    ∃ t, exec c s = .next t
      ∧ (t.ports.get e.port).postedError = false ∧ (t.ports.get e.port).barrier = false
      ∧ (b.state ≠ .up → (t.ports.get e.port).out = b.out)
      ∧ (b.state = .up →
          (t.ports.get e.port).out = b.out ++ s.completionsFor e.port (s.owedEntries [q]) (owedStatus failed)
            ++ [completionPacket e.tag (if flag then .targetError else .ok) none []]
            ++ s.notices e.port (failed.toList.map fun kind =>
              { kind := kind, addr := some (.line q.line), target := some .m, region := some (q.region, q.generation)
                contributors := some q.contributors }))

/-- R76, R77: the seal timer seals the OPEN entry, which is the tail, and touches nothing else; without an OPEN entry no seal
timer runs and nothing changes (log entry 4). -/
def Obligations.SealTimerSealsTheOpenTail : Prop :=
  ∀ s : State, s.QueueOrdered →
    (∀ (older : List PwqEntry) (q : PwqEntry) (timer : Nat), s.pwq.entries = older ++ [q] → q.state = .openFor timer →
        exec .sealTimerExpiry s
          = .next { s with pwq := { s.pwq with entries := older ++ [{ q with state := .sealed }] } })
      ∧ ((∀ q ∈ s.pwq.entries, q.isOpen = false) → exec .sealTimerExpiry s = .next s)

/-! ### Timers -/

/-- R104, R121, R155, and for the queue R85: the response timer of an ISSUED entry expires. It completes TIMEOUT when live, is
recorded and freed, and its tag becomes stale-reserved. A timer that does not run does not expire (log entry 4). That a
WAIT_ROOM head stays for an advance of its own is the model's reading (log entry 10). -/
def Obligations.ResponseTimersEndIssuedWork : Prop :=
  (∀ (s : State) (i : Fin 24) (e : TrackerEntry) (tag : Fin 8) (ep : Bool) (timer : Nat), s.entryAt i = some e →
      e.state = .issued tag ep timer →
      let after : State := { s with tracker := s.tracker.without e, ports := s.answered e .timeout [] }
      let record : RecordKind → RecordAddr → RecordTarget → RegionIndex → BitVec 8 → ErrorRecord := fun kind a link g gen =>
        { kind := kind, port := some e.port, tag := some e.tag, addr := some a, target := some link, region := some (g, gen) }
      (∀ a n g gen, e.work = .readM a n g gen →
          exec (.responseTimerExpiry i) s = .next (State.hand
            { after with sched := { s.sched with dtags := s.sched.dtags.set tag .stale } }
            (record .readTimeout (.memory a) .m g gen)))
        ∧ (∀ a n g gen, e.work = .readX a n g gen →
          exec (.responseTimerExpiry i) s = .next (State.hand
            { after with ext := { s.ext with xtags := s.ext.xtags.set tag .stale } }
            (record .readTimeout (.extension a) .x g gen)))
        ∧ ∀ a g gen, e.work = .ackX a g gen →
          exec (.responseTimerExpiry i) s = .next (State.hand
            { after with ext := { s.ext with xtags := s.ext.xtags.set tag .stale } }
            (record .writeTimeout (.extension a) .x g gen)))
    ∧ (∀ (s : State) (i : Fin 24), (∀ e ∈ s.tracker.entries, e.index = i → ∀ tag ep timer, e.state ≠ .issued tag ep timer) →
        exec (.responseTimerExpiry i) s = .next s)
    ∧ (∀ (s : State) (slot : Fin 16), (∀ q ∈ s.pwq.entries, q.slot = slot → q.isIssued = false) →
        exec (.pwqResponseTimerExpiry slot) s = .next s)
    ∧ (∀ (s : State) (d : Fin 8) (row : BitVec 20) (timer : Nat), s.sched.dtags[d] = .sweep row timer →
        exec (.sweepResponseTimerExpiry d) s = .next (State.hand
          { s with sched := { s.sched with dtags := s.sched.dtags.set d .stale } }
          { kind := .sweepTimeout, target := some .m, addr := some (.row row) }))
    ∧ (∀ (s : State) (d : Fin 8), (∀ row timer, s.sched.dtags[d] ≠ .sweep row timer) →
        exec (.sweepResponseTimerExpiry d) s = .next s)
    ∧ ∀ s : State, s.sweep.timer = none → exec .sweepTimerExpiry s = .next s

/-- R137, R139, R140, R145: a running sweep timer that expires begins its next period; with M UP the row counter joins the queue
and advances, or an overrun is recorded when the queue holds 4 rows; with M DOWN nothing else happens. -/
def Obligations.SweepTimerQueuesTheNextRow : Prop :=
  ∀ s : State,
    let period := if s.sweep.interval = 0 then none else some s.sweep.interval
    s.sweep.timer ≠ none →
      (s.sched.link = .down → exec .sweepTimerExpiry s = .next { s with sweep := { s.sweep with timer := period } })
        ∧ (s.sched.link = .up → s.sweep.queue.length < 4 →
          exec .sweepTimerExpiry s = .next { s with sweep := { s.sweep with
            timer := period
            queue := s.sweep.queue ++ [BitVec.ofNat 20 s.sweep.row]
            row := (s.sweep.row + 1) % s.sweep.rows } })
        ∧ (s.sched.link = .up → 4 ≤ s.sweep.queue.length →
          exec .sweepTimerExpiry s = .next (State.hand { s with sweep := { s.sweep with timer := period } }
            { kind := .sweepOverrun, target := some .m, addr := some (.row (BitVec.ofNat 20 s.sweep.row)) }))

/-! ### The Control Engine -/

/-- R159 to R161: a selection takes the first control candidate from the rotation pointer on; a request that fails a check
completes with that check's status and value 0 and nothing else happens; the checks are judged in their order, by the codes,
index ranges and access of the tables. Each action code and each writable object code with a row of the opcode table belongs to
that row; every other control request belongs to CTRL_WRITE_OBJECT (the model's choice, log entry 8). Without a candidate of the
row nothing changes (the model's choice, log entry 9). -/
def Obligations.SelectionsApplyTheChecks : Prop :=
  (∀ (s : State) (p : Port) (r : Request), s.engineWinner = some (p, r) ↔
      ((s.ports.get p).state = .up ∧ (s.ports.get p).progress = .waitEngine ∧ (s.ports.get p).ingress.head? = some r)
        ∧ ∀ q ∈ s.engine.fromHere.takeWhile fun q => q ≠ p,
          ¬((s.ports.get q).state = .up ∧ (s.ports.get q).progress = .waitEngine ∧ (s.ports.get q).ingress ≠ []))
    ∧ (∀ (s : State) (p : Port) (r : Request) (row : CtrlRow) (st : Status), s.Selects p r row →
        r.checks (s.ports.get p).rights = some st → exec row.command s = .next (s.afterService p r st 0))
    ∧ (∀ (s : State) (row : CtrlRow), s.NothingOwed → (∀ p r, s.engineWinner = some (p, r) → r.row ≠ row) →
        exec row.command s = .next s)
    ∧ (∀ r : Request,
        (r.kind = .ctrlAction → r.row = match r.code with
            | 1 => .commit | 2 => .stageFromActive | 3 => .windowOpen | 4 => .windowClose | 5 => .windowLock | 6 => .logPop
            | 7 => .logClear | 8 => .portDisable | 9 => .portEnable | 10 => .warmReset | _ => .object)
          ∧ (r.kind = .ctrlWrite → r.row = match r.code with
            | 1 => .regionStagedWrite | 3 => .defaultTargetStagedWrite | 6 => .windowWrite | 8 => .portRightsWrite
            | 11 => .favouredWrite | 14 => .combineWindowWrite | 17 => .sweepIntervalWrite | 18 => .sweepRowsWrite
            | _ => .object)
          ∧ (r.kind = .ctrlRead → r.row = .object))
    ∧ ∀ (r : Request) (rights : Rights),
      (rights.management = false → r.checks rights = some .refused)
        ∧ (rights.management = true →
          (r.kind = .ctrlAction → r.checks rights = if 1 ≤ r.code ∧ r.code ≤ 10 then none else some .invalid)
            ∧ (r.kind = .ctrlRead ∨ r.kind = .ctrlWrite →
              (r.code = 0 ∨ 28 < r.code → r.checks rights = some .invalid)
                ∧ (1 ≤ r.code → r.code ≤ 28 →
                  (r.kind = .ctrlWrite → r.code ∈ [2, 4, 5, 7, 9, 10, 19, 20, 21, 22, 23, 24, 25, 28] →
                      r.checks rights = some .refused)
                    ∧ (r.kind = .ctrlRead ∨ r.code ∉ [2, 4, 5, 7, 9, 10, 19, 20, 21, 22, 23, 24, 25, 28] →
                      r.checks rights =
                        if (r.code ∈ [1, 2] ∧ r.index < 64) ∨ (r.code ∈ [8, 9, 10] ∧ r.index < 4)
                          ∨ (r.code ∈ [21, 24] ∧ r.index < 2) ∨ (r.code = 28 ∧ r.index < 10) ∨ r.index = 0
                        then none else some .invalid))))

/-- R14, R15: a COMMIT that no valid staged entry fails copies the staged table and default target into the active ones,
advances the generation and completes with it; a rejected one reports the failing entry and check and changes no table. -/
def Obligations.CommitsPublishOrReject : Prop :=
  ∀ (s : State) (p : Port) (r : Request), s.Serves p r .commit →
    let g := s.regionMap.generation + 1
    (s.regionMap.staged.commitFailure = none →
        exec .commit s = .next (State.afterService
          { s with regionMap := { staged := s.regionMap.staged, active := s.regionMap.staged, generation := g } }
          p r .ok (g.setWidth 64)))
      ∧ ∀ i check, s.regionMap.staged.commitFailure = some (i, check) →
        exec .commit s = .next (s.afterService p r .invalid (BitVec.ofNat 64 (i.val + 256 * check)))

/-- R13: the checks of a commit, in the order of the entries and of the checks. -/
def Obligations.CommitChecksAreThoseOfTheTable : Prop :=
  ∀ t : RegionTable,
    let fails : Fin 32 → Nat → Prop := fun i check =>
      let e := t.entries[i]
      let low : Int := (e.base.toNat : Int) + e.offset.toInt
      let high : Int := (e.limit.toNat : Int) + e.offset.toInt
      e.valid = true
        ∧ (check = 1 ∧ e.limit.toNat < e.base.toNat
          ∨ check = 2 ∧ e.base.toNat ≤ e.limit.toNat ∧ e.target = .memory ∧ ¬(0 ≤ low ∧ high < 2 ^ 24)
          ∨ check = 3 ∧ e.base.toNat ≤ e.limit.toNat ∧ e.target = .extension ∧ ¬(0 ≤ low ∧ high < 2 ^ 28))
    (t.commitFailure = none ↔ ∀ i check, ¬fails i check)
      ∧ ∀ i check, t.commitFailure = some (i, check) ↔ fails i check ∧ ∀ j, j < i → ∀ other, ¬fails j other

/-- R2, R9, R17: the three ways software changes the staged table. -/
def Obligations.StagedTableChangesAsWritten : Prop :=
  ∀ (s : State) (p : Port) (r : Request),
    let m := s.regionMap
    let v := r.value
    let write : RegionTable → State := fun t => { s with regionMap := { m with staged := t } }
    let put : Fin 32 → RegionEntry → State := fun i e => write { m.staged with entries := m.staged.entries.set i e }
    (s.Serves p r .stageFromActive → exec .stageFromActive s = .next (State.afterService (write m.active) p r .ok 0))
      ∧ (s.Serves p r .regionStagedWrite → ∀ i : Fin 32,
        (r.index = 2 * i.val →
            (∀ t : RegionTarget, field v 56 2 = t.code → field v 59 4 = 0 →
                exec .regionStagedWrite s = .next (State.afterService
                  (put i
                    { m.staged.entries[i] with
                      valid := v.getLsbD 63, base := field v 0 28, limit := field v 28 28, target := t
                      combine := v.getLsbD 58 }) p r .ok 0))
              ∧ (field v 56 2 = 3 ∨ field v 59 4 ≠ 0 →
                exec .regionStagedWrite s = .next (s.afterService p r .invalid 0)))
          ∧ (r.index = 2 * i.val + 1 →
            (field v 8 24 = 0 → field v 61 3 = 0 → (field v 32 29).toInt ≠ -2 ^ 28 →
                exec .regionStagedWrite s = .next (State.afterService
                  (put i
                    { m.staged.entries[i] with
                      read := ⟨v.getLsbD 0, v.getLsbD 1, v.getLsbD 2, v.getLsbD 3⟩
                      write := ⟨v.getLsbD 4, v.getLsbD 5, v.getLsbD 6, v.getLsbD 7⟩
                      offset := field v 32 29 }) p r .ok 0))
              ∧ (field v 8 24 ≠ 0 ∨ field v 61 3 ≠ 0 ∨ (field v 32 29).toInt = -2 ^ 28 →
                exec .regionStagedWrite s = .next (s.afterService p r .invalid 0))))
      ∧ (s.Serves p r .defaultTargetStagedWrite →
        (∀ t : DefaultTarget, v = t.value →
            exec .defaultTargetStagedWrite s = .next (State.afterService (write { m.staged with default := t }) p r .ok 0))
          ∧ (v ≠ 0 → v ≠ 2 → exec .defaultTargetStagedWrite s = .next (s.afterService p r .invalid 0)))

/-- R28, R31: the window actions, each change with its WINDOW_CHANGE record. -/
def Obligations.WindowActionsFollowTheirTable : Prop :=
  ∀ (s : State) (p : Port) (r : Request),
    let change : WindowState → Word64 → State := fun w v =>
      State.hand (State.afterService { s with window := { s.window with state := w } } p r .ok v)
        { kind := .windowChange, port := some p, tag := some r.tag, count := some v.toNat
          region := some (.window, s.regionMap.generation) }
    (s.Serves p r .windowOpen →
        (s.window.state = .closed → exec .windowOpen s = .next (change .opened 1))
          ∧ (s.window.state = .opened → exec .windowOpen s = .next (s.afterService p r .ok 1))
          ∧ (s.window.state = .locked → exec .windowOpen s = .next (s.afterService p r .state 2)))
      ∧ (s.Serves p r .windowClose →
        (s.window.state = .closed → exec .windowClose s = .next (s.afterService p r .ok 0))
          ∧ (s.window.state = .opened → exec .windowClose s = .next (change .closed 0))
          ∧ (s.window.state = .locked → exec .windowClose s = .next (s.afterService p r .ok 2)))
      ∧ (s.Serves p r .windowLock →
        (s.window.state ≠ .locked → exec .windowLock s = .next (change .locked 2))
          ∧ (s.window.state = .locked → exec .windowLock s = .next (s.afterService p r .ok 2)))

/-- R23: a write of WINDOW by a port with the management right completes INVALID at an index other than 0, then STATE outside
CLOSED; in CLOSED a value outside the encoding or one of the ranges completes INVALID, and any other replaces the descriptor. -/
def Obligations.WindowWritesReplaceTheDescriptor : Prop :=
  ∀ (s : State) (p : Port) (r : Request), s.Selects p r .windowWrite → (s.ports.get p).rights.management = true →
    let base := field r.value 0 28
    let size := (field r.value 28 9).toNat
    let memBase := field r.value 40 24
    let bad := field r.value 37 3 ≠ 0 ∨ 256 < size ∨ 1 ≤ size ∧ 2 ^ 28 < base.toNat + size
      ∨ 1 ≤ size ∧ 2 ^ 24 < memBase.toNat + size
    (r.index ≠ 0 → exec .windowWrite s = .next (s.afterService p r .invalid 0))
      ∧ (r.index = 0 → s.window.state ≠ .closed → exec .windowWrite s = .next (s.afterService p r .state 0))
      ∧ (r.index = 0 → s.window.state = .closed → bad → exec .windowWrite s = .next (s.afterService p r .invalid 0))
      ∧ (r.index = 0 → s.window.state = .closed → ¬bad →
        exec .windowWrite s = .next (State.afterService
          { s with window := { s.window with desc := { base := base, size := size, memBase := memBase } } } p r .ok 0))

/-- R168: LOG_POP removes the oldest record, LOG_CLEAR every record and the overflow count; neither moves the sequence counter. -/
def Obligations.LogActionsRemoveRecords : Prop :=
  ∀ (s : State) (p : Port) (r : Request),
    (s.Serves p r .logPop →
        (s.log.records = [] → exec .logPop s = .next (s.afterService p r .ok 0))
          ∧ ∀ oldest rest, s.log.records = oldest :: rest →
            exec .logPop s = .next (State.afterService { s with log := { s.log with records := rest } } p r .ok
              (BitVec.ofNat 64 rest.length)))
      ∧ (s.Serves p r .logClear →
        exec .logClear s = .next (State.afterService { s with log := { s.log with records := [], overflow := 0 } } p r .ok
          (BitVec.ofNat 64 s.log.records.length)))

/-- R44, R46, R169, R170: PORT_DISABLE discards and counts the queue of another port that is UP, with its credits returned;
PORT_ENABLE brings a DISABLED port back as it stands. -/
def Obligations.PortsAreDisabledAndEnabled : Prop :=
  ∀ (s : State) (p q : Port) (r : Request),
    let b := s.ports.get q
    (s.Serves p r .portDisable →
        (3 < r.value.toNat → exec .portDisable s = .next (s.afterService p r .invalid 0))
          ∧ (r.value.toNat = p.code → exec .portDisable s = .next (s.afterService p r .state 0))
          ∧ (r.value.toNat = q.code → q ≠ p →
            (b.state = .up →
                exec .portDisable s = .next (State.afterService
                  (s.withPort q
                    { b with
                      state := .disabled, ingress := [], progress := .examine, cls := none
                      credits := b.credits + b.ingress.length
                      discarded := min 65535 (b.discarded + b.ingress.length)
                      out := b.out ++ if b.ingress = [] then [] else [creditPacket b.ingress.length] })
                  p r .ok 2))
              ∧ (b.state = .disabled → exec .portDisable s = .next (s.afterService p r .ok 2))
              ∧ (b.state = .down → exec .portDisable s = .next (s.afterService p r .ok 0))))
      ∧ (s.Serves p r .portEnable →
        (3 < r.value.toNat → exec .portEnable s = .next (s.afterService p r .invalid 0))
          ∧ (r.value.toNat = q.code →
            (b.state = .down → exec .portEnable s = .next (s.afterService p r .state 0))
              ∧ (b.state = .disabled →
                exec .portEnable s = .next (State.afterService (s.withPort q { b with state := .up }) p r .ok 1))
              ∧ (b.state = .up → exec .portEnable s = .next (s.afterService p r .ok 1))))

/-- R171 to R173 with R47, R93, R116, R135, R145, R157: a warm reset ends everything in flight, keeps what the table keeps, and
produces its packets for each port in the order of R172. That a request of unknown kind ends ABORTED like a non-posted one is
the model's reading (log entry 13). -/
def Obligations.WarmResetEndsAllWorkInOrder : Prop :=
  ∀ (s : State) (p : Port) (r : Request), s.Serves p r .warmReset → s.CreditsAddUp →
    ∃ t, exec .warmReset s = .next t
      ∧ t.tracker = { s.tracker with entries := [] }
      ∧ t.pwq = { s.pwq with entries := [] }
      ∧ t.sched = { s.sched with
          epoch := !s.sched.epoch, dtags := Vector.replicate 8 .free, slotCounter := 0, rotation := .port .u0, hold := none }
      ∧ t.sweep = { s.sweep with queue := [] }
      ∧ t.ext = { s.ext with epoch := !s.ext.epoch, xtags := Vector.replicate 8 .free, rotation := .u0 }
      ∧ t.regionMap = s.regionMap ∧ t.window = s.window ∧ t.engine = p.next ∧ t.pending = s.pending ∧ t.stamp = s.stamp
      ∧ t.log = (s.hand { kind := .warmResetDiscard, port := some p, tag := some r.tag
                          count := some s.pwq.entries.length }).log
      ∧ ∀ q,
        let b := s.ports.get q
        let b' := t.ports.get q
        let ended := if q = p then b.ingress.tail else b.ingress
        let owed := ended.length + if q = p then 1 else 0
        b' = { b with
            ingress := [], progress := .examine, cls := none, credits := b.credits + owed, barrier := false
            postedError := b'.postedError, out := b'.out }
          ∧ (b'.postedError = true ↔ b.postedError = true ∨ (∃ x ∈ ended, x.posted = true)
              ∨ b.state ≠ .down ∧ ∃ e ∈ s.pwq.entries, e.contributors.get q = true)
          ∧ (b.state ≠ .up → b'.out = b.out)
          ∧ (b.state = .up → b'.out = b.out
              ++ ((s.tracker.entries.filter fun e => e.port == q && !e.orphan).map fun e =>
                completionPacket e.tag .aborted none [])
              ++ ((ended.filter fun x => !x.posted).map fun x =>
                completionPacket x.tag .aborted (if x.kind.isControl = true then some 0 else none) [])
              ++ (if q = p then [completionPacket r.tag .ok (some 0) []] else [])
              ++ (if owed = 0 then [] else [creditPacket owed])
              ++ (if q = s.log.noticePort ∧ s.log.noticeEnable = true ∧ s.log.records.length < 8 then
                [noticePacket s.log.sequence .warmResetDiscard (some p)] else []))

/-- R165 to R167, R69: a legal rights value replaces the rights of the port it names unless no UP port would keep the management
right; a head of that port in WAIT_ROOM is re-tested by the write, as by an advance after it. -/
def Obligations.RightsWritesReplaceRights : Prop :=
  ∀ (s : State) (p q : Port) (r : Request), s.Serves p r .portRightsWrite → r.index = q.code →
    let n := r.value.toNat
    let legal := n % 256 < 8 ∧ 1 ≤ n / 256 ∧ n / 256 ≤ 8
    let rights : Rights :=
      { management := r.value.getLsbD 0, privilege := r.value.getLsbD 1, window := r.value.getLsbD 2, quota := n / 256 }
    let written := s.withPort q { s.ports.get q with rights := rights }
    let managed := ∃ u, (written.ports.get u).state = .up ∧ (written.ports.get u).rights.management = true
    (¬legal → exec .portRightsWrite s = .next (s.afterService p r .invalid 0))
      ∧ (legal → ¬managed → exec .portRightsWrite s = .next (s.afterService p r .state 0))
      ∧ (legal → managed → (s.ports.get q).progress ≠ .waitRoom →
        exec .portRightsWrite s = .next (written.afterService p r .ok 0))
      ∧ (legal → managed → (s.ports.get q).progress = .waitRoom →
        exec .portRightsWrite s = exec (.admissionAdvance q) (written.afterService p r .ok 0))

/-- R78, R130, R138, R141: the four settings whose write has an effect of its own. -/
def Obligations.SettingsWritesHaveTheirEffects : Prop :=
  ∀ (s : State) (p : Port) (r : Request),
    let n := r.value.toNat
    (s.Serves p r .favouredWrite →
        (4 < n → exec .favouredWrite s = .next (s.afterService p r .invalid 0))
          ∧ ∀ f : Option Port, n = favouredCode f →
            exec .favouredWrite s = .next (State.afterService
              (if f = s.sched.favoured then s
              else { s with sched := { s.sched with favoured := f, slotCounter := 0, hold := none } }) p r .ok 0))
      ∧ (s.Serves p r .combineWindowWrite →
        (255 < n → exec .combineWindowWrite s = .next (s.afterService p r .invalid 0))
          ∧ (n ≤ 255 →
            exec .combineWindowWrite s = .next (State.afterService
              { s with pwq := { s.pwq with
                  combineWindow := n
                  entries := if n = 0 then s.pwq.entries.map PwqEntry.seal else s.pwq.entries } } p r .ok 0)))
      ∧ (s.Serves p r .sweepIntervalWrite →
        (65535 < n → exec .sweepIntervalWrite s = .next (s.afterService p r .invalid 0))
          ∧ (n ≤ 65535 →
            exec .sweepIntervalWrite s = .next (State.afterService
              { s with sweep := { s.sweep with interval := n, timer := if n = 0 then none else some n } } p r .ok 0)))
      ∧ (s.Serves p r .sweepRowsWrite →
        (n = 0 ∨ 2 ^ 20 < n → exec .sweepRowsWrite s = .next (s.afterService p r .invalid 0))
          ∧ (1 ≤ n → n ≤ 2 ^ 20 →
            exec .sweepRowsWrite s = .next (State.afterService
              { s with sweep := { s.sweep with rows := n, row := if s.sweep.row < n then s.sweep.row else 0 } } p r .ok 0)))

/-- Section 10.2: every other writable object takes a value in its range and refuses any other, and a read of any object carries
the value held, in the encoding of section 3.7, and changes nothing. That reads are served under CTRL_WRITE_OBJECT is the
model's choice (log entry 8). -/
def Obligations.ObjectsAreWrittenAndRead : Prop :=
  ∀ (s : State) (p : Port) (r : Request), s.Serves p r .object →
    let n := r.value.toNat
    let invalid := exec .ctrlWriteObject s = .next (s.afterService p r .invalid 0)
    let reads : Word64 → Prop := fun v => exec .ctrlWriteObject s = .next (s.afterService p r .ok v)
    let readsNat : Nat → Prop := fun m => reads (BitVec.ofNat 64 m)
    let readsTable : RegionTable → Prop := fun t => ∀ i : Fin 32,
      let e := t.entries[i]
      (r.index = 2 * i.val → ∃ v, reads v
          ∧ field v 0 28 = e.base ∧ field v 28 28 = e.limit
          ∧ (field v 56 2).toNat = (match e.target with | .refuse => 0 | .memory => 1 | .extension => 2)
          ∧ v.getLsbD 58 = e.combine ∧ field v 59 4 = 0 ∧ v.getLsbD 63 = e.valid)
        ∧ (r.index = 2 * i.val + 1 → ∃ v, reads v
          ∧ (∀ q : Port, v.getLsbD q.code = e.read.get q ∧ v.getLsbD (4 + q.code) = e.write.get q)
          ∧ field v 8 24 = 0 ∧ field v 32 29 = e.offset ∧ field v 61 3 = 0)
    let readsTarget : DefaultTarget → Prop := fun d => reads (match d with | .refuse => 0 | .extension => 2)
    let readsBlock : (PortBlock → Nat) → Prop := fun f => ∀ q : Port, r.index = q.code → readsNat (f (s.ports.get q))
    (r.kind = .ctrlWrite →
        (r.code = 12 →
            if 1 ≤ n ∧ n ≤ 15 then
              exec .ctrlWriteObject s
                = .next (State.afterService { s with sched := { s.sched with holdBudget := n } } p r .ok 0)
            else invalid)
          ∧ (r.code = 13 →
            if 4 ≤ n ∧ n ≤ 16 then
              exec .ctrlWriteObject s = .next (State.afterService { s with pwq := { s.pwq with watermark := n } } p r .ok 0)
            else invalid)
          ∧ (r.code = 15 →
            if 1 ≤ n ∧ n ≤ 1023 then
              exec .ctrlWriteObject s
                = .next (State.afterService { s with tracker := { s.tracker with timeoutM := n } } p r .ok 0)
            else invalid)
          ∧ (r.code = 16 →
            if 1 ≤ n ∧ n ≤ 65535 then
              exec .ctrlWriteObject s
                = .next (State.afterService { s with tracker := { s.tracker with timeoutX := n } } p r .ok 0)
            else invalid)
          ∧ (r.code = 26 →
            (∀ q : Port, n = q.code →
                exec .ctrlWriteObject s
                  = .next (State.afterService { s with log := { s.log with noticePort := q } } p r .ok 0))
              ∧ (3 < n → invalid))
          ∧ (r.code = 27 →
            if n ≤ 1 then
              exec .ctrlWriteObject s
                = .next (State.afterService { s with log := { s.log with noticeEnable := decide (n = 1) } } p r .ok 0)
            else invalid)
          ∧ r.code ∈ [12, 13, 15, 16, 26, 27])
      ∧ (r.kind = .ctrlRead →
        (1 ≤ r.code ∧ r.code ≤ 28)
          ∧ (r.code = 1 → readsTable s.regionMap.staged)
          ∧ (r.code = 2 → readsTable s.regionMap.active)
          ∧ (r.code = 3 → readsTarget s.regionMap.staged.default)
          ∧ (r.code = 4 → readsTarget s.regionMap.active.default)
          ∧ (r.code = 5 → readsNat s.regionMap.generation.toNat)
          ∧ (r.code = 6 → ∃ v, reads v
            ∧ field v 0 28 = s.window.desc.base ∧ field v 28 9 = BitVec.ofNat 9 s.window.desc.size ∧ field v 37 3 = 0
            ∧ field v 40 24 = s.window.desc.memBase)
          ∧ (r.code = 7 → readsNat (match s.window.state with | .closed => 0 | .opened => 1 | .locked => 2))
          ∧ (r.code = 8 → readsBlock fun b =>
            b.rights.management.toNat + 2 * b.rights.privilege.toNat + 4 * b.rights.window.toNat + 256 * b.rights.quota)
          ∧ (r.code = 9 → readsBlock fun b => match b.state with | .down => 0 | .up => 1 | .disabled => 2)
          ∧ (r.code = 10 → readsBlock fun b => b.discarded)
          ∧ (r.code = 11 → readsNat (match s.sched.favoured with
            | some .u0 => 0 | some .u1 => 1 | some .u2 => 2 | some .u3 => 3 | none => 4))
          ∧ (r.code = 12 → readsNat s.sched.holdBudget)
          ∧ (r.code = 13 → readsNat s.pwq.watermark)
          ∧ (r.code = 14 → readsNat s.pwq.combineWindow)
          ∧ (r.code = 15 → readsNat s.tracker.timeoutM)
          ∧ (r.code = 16 → readsNat s.tracker.timeoutX)
          ∧ (r.code = 17 → readsNat s.sweep.interval)
          ∧ (r.code = 18 → readsNat s.sweep.rows)
          ∧ (r.code = 19 → readsNat s.sweep.row)
          ∧ (r.code = 20 → readsNat s.sweep.corrected)
          ∧ (r.code = 21 → (r.index = 0 → readsNat s.sched.late) ∧ (r.index = 1 → readsNat s.ext.late))
          ∧ (r.code = 22 → readsNat s.pwq.entries.length)
          ∧ (r.code = 23 → readsNat s.tracker.entries.length)
          ∧ (r.code = 24 →
            (∀ e rest, s.log.records = e :: rest →
                (r.index = 0 → reads e.word0) ∧ (r.index = 1 → reads e.record.word1))
              ∧ (s.log.records = [] →
                (r.index = 0 → ∃ v, reads v
                    ∧ field v 0 16 = s.log.sequence ∧ field v 16 5 = 0 ∧ field v 21 3 = 7 ∧ field v 24 5 = 31
                    ∧ field v 29 2 = 0 ∧ v.getLsbD 31 = false ∧ field v 32 6 = 63 ∧ field v 38 26 = 0)
                  ∧ (r.index = 1 → reads 0)))
          ∧ (r.code = 25 →
            reads (BitVec.ofNat 64 (s.log.records.length + 256 * s.log.overflow + 65536 * s.log.sequence.toNat)))
          ∧ (r.code = 26 → readsNat (match s.log.noticePort with | .u0 => 0 | .u1 => 1 | .u2 => 2 | .u3 => 3))
          ∧ (r.code = 27 → readsNat (if s.log.noticeEnable = true then 1 else 0))
          ∧ (r.code = 28 → ∀ v, [1, 4, 8, 32, 16, 24, 8, 8, 8, 4][r.index]? = some v → reads v))

/-! ### The error log -/

/-- R177, R178, R181: a record handed to a log with room is stored under the sequence counter's value, which advances, and is
noticed at the notice port when notices are on and it is UP; a full log keeps its records and counts the overflow. -/
def Obligations.RecordsAreStoredAndNoticedOrCounted : Prop :=
  ∀ (s : State) (r : ErrorRecord),
    let q := s.log.noticePort
    let b := s.ports.get q
    let stored : State := { s with log := { s.log with
      records := s.log.records ++ [{ sequence := s.log.sequence, record := r }], sequence := s.log.sequence + 1 } }
    let notice := noticePacket s.log.sequence r.kind r.port
    (s.log.records.length < 8 → s.log.noticeEnable = true → b.state = .up →
        s.hand r = stored.withPort q { b with out := b.out ++ [notice] })
      ∧ (s.log.records.length < 8 → s.log.noticeEnable = false ∨ b.state ≠ .up → s.hand r = stored)
      ∧ (8 ≤ s.log.records.length →
        s.hand r = { s with log := { s.log with
          overflow := if s.log.overflow < 255 then s.log.overflow + 1 else s.log.overflow } })
      ∧ field notice.word0 0 4 = 10 ∧ field notice.word0 16 16 = s.log.sequence
      ∧ field notice.word0 32 5 = r.kind.code
      ∧ (field notice.word0 40 3).toNat = (match r.port with | some p => p.code | none => 7)

/-- Section 3.7, R2, R23, R165, R176: every region entry, descriptor and rights value is read back from the words it is written
to, each accepted word is the one word of what it encodes, and the fields of a record stand where its layout puts them. -/
def Obligations.ControlValuesAndRecordsKeepTheirFields : Prop :=
  (∀ e e₀ : RegionEntry, e.offset.toInt ≠ -2 ^ 28 →
      ((e₀.withWord0 e.word0).bind fun e₁ => e₁.withWord1 e.word1) = some e)
    ∧ (∀ (e e' : RegionEntry) (v : Word64), e.withWord0 v = some e' → e'.word0 = v ∧ e'.word1 = e.word1)
    ∧ (∀ (e e' : RegionEntry) (v : Word64), e.withWord1 v = some e' → e'.word1 = v ∧ e'.word0 = e.word0)
    ∧ (∀ d : WindowDesc, d.size = 0 ∨ d.size ≤ 256 ∧ d.base.toNat + d.size ≤ 2 ^ 28 ∧ d.memBase.toNat + d.size ≤ 2 ^ 24 →
        WindowDesc.ofWord d.word = some d)
    ∧ (∀ (d : WindowDesc) (v : Word64), WindowDesc.ofWord v = some d → d.word = v)
    ∧ (∀ r : Rights, 1 ≤ r.quota → r.quota ≤ 8 → Rights.ofValue (BitVec.ofNat 64 r.value) = some r)
    ∧ (∀ (r : Rights) (v : Word64), Rights.ofValue v = some r → BitVec.ofNat 64 r.value = v)
    ∧ ∀ e : LogEntry,
      let w := e.word0
      field w 0 16 = e.sequence ∧ field w 16 5 = e.record.kind.code
        ∧ (field w 21 3).toNat = (match e.record.port with | some p => p.code | none => 7)
        ∧ field w 24 5 = (match e.record.tag with | some t => t.setWidth 5 | none => 31)
        ∧ field w 29 2 = (match e.record.target with | none => 0 | some .m => 1 | some .x => 2)
        ∧ w.getLsbD 31 = e.record.count.isSome
        ∧ field w 32 6 = (match e.record.region with
          | some (.entry i, _) => BitVec.ofNat 6 i.val | some (.default, _) => 32 | some (.window, _) => 33 | none => 63)
        ∧ field w 38 2 = 0
        ∧ field w 40 8 = (match e.record.region with | some (_, g) => g | none => 0)
        ∧ field w 48 16 = (match e.record.count with | some n => BitVec.ofNat 16 n | none => 0)
        ∧ field e.record.word1 0 40 = (match e.record.addr with | some a => a.value | none => 0)
        ∧ field e.record.word1 40 3 = (match e.record.addr with | some a => a.kindCode | none => 0)
        ∧ field e.record.word1 43 5 = 0
        ∧ (∀ i, i < 4 → e.record.word1.getLsbD (48 + i)
            = (match e.record.contributors, Port.ofCode i with | some c, some p => c.get p | _, _ => false))
        ∧ e.record.word1.getLsbD 52 = e.record.contributors.isSome
        ∧ field e.record.word1 53 11 = 0

/-- R71, R96, R119, R151: the tracker index, queue slot, dtag and xtag that are taken next are the lowest-numbered free ones. -/
def Obligations.TheLowestFreeNumberIsTaken : Prop :=
  ∀ s : State,
    (s.tracker.entries.length < 24 →
        (∀ e ∈ s.tracker.entries, e.index ≠ s.freeIndex)
          ∧ ∀ i, i < s.freeIndex → ∃ e ∈ s.tracker.entries, e.index = i)
      ∧ (s.pwq.entries.length < 16 →
        (∀ q ∈ s.pwq.entries, q.slot ≠ s.freeSlot) ∧ ∀ i, i < s.freeSlot → ∃ q ∈ s.pwq.entries, q.slot = i)
      ∧ (∀ d : Fin 8, s.freeDtag = some d ↔ s.sched.dtags[d] = .free ∧ ∀ y : Fin 8, y < d → s.sched.dtags[y] ≠ .free)
      ∧ ∀ x : Fin 8, s.freeXtag = some x ↔ s.ext.xtags[x] = .free ∧ ∀ y : Fin 8, y < x → s.ext.xtags[y] ≠ .free

/-! ### What every step keeps -/

/-- R40, R43, R45: the occupancy, credit count and owed credits of every port add up at every step. -/
def Obligations.EveryStepKeepsCreditsAddingUp : Prop :=
  ∀ s t : State, s.CreditsAddUp → step s = .next t → t.CreditsAddUp

/-- R12: the active table and default target change at a cold reset or a successful COMMIT alone, and every valid entry of the
active table satisfies the commit checks. -/
def Obligations.TheActiveTableChangesOnlyByCommit : Prop :=
  ∀ s t : State, s.ActiveTableSound → step s = .next t →
    t.ActiveTableSound
      ∧ (t.regionMap.active = s.regionMap.active
        ∨ s.pending.head? = some .coldReset ∧ t.regionMap = State.reset.regionMap
        ∨ s.pending.head? = some .commit ∧ s.regionMap.staged.commitFailure = none
          ∧ t.regionMap.active = s.regionMap.staged ∧ t.regionMap.generation = s.regionMap.generation + 1)

/-- R29: once the window is LOCKED, its state and descriptor stay until a cold reset. -/
def Obligations.TheLockedWindowStaysUntilColdReset : Prop :=
  ∀ s t : State, s.window.state = .locked → s.pending.head? ≠ some .coldReset → step s = .next t → t.window = s.window

/-- R177, R178: the log holds at most 8 records, numbered consecutively up to the sequence counter, at every step. -/
def Obligations.EveryStepKeepsTheLogNumbered : Prop :=
  ∀ s t : State, s.LogNumbered → step s = .next t → t.LogNumbered

/-- Section 10.2, R126, R127, R137, R140, R148: every setting stays in its range, and so do the slot counter, the hold, the
sweep queue and row counter, and the X credits. -/
def Obligations.EveryStepKeepsSettingsAndCountersInRange : Prop :=
  ∀ s t : State, s.SettingsInRange → s.SweepsBounded → s.HoldSound → s.XCreditsBounded → step s = .next t →
    t.SettingsInRange ∧ t.SweepsBounded ∧ t.HoldSound ∧ t.XCreditsBounded

/-- R97: the tracker holds at most 24 entries, and no two live ones with one port and tag, at every step. -/
def Obligations.EveryStepKeepsLiveTagsUnique : Prop :=
  ∀ s t : State, s.TagsUnique → step s = .next t → t.TagsUnique

/-- R72, R79, R80, R89, R101, R102, R118, R151: at every step the queue stands in order, every dtag, xtag, slot and owed or
awaited reference is answered by the one it names, and a READY read has no older write of its line before it. -/
def Obligations.EveryStepKeepsWorkTied : Prop :=
  ∀ s t : State, s.WorkTied → step s = .next t → t.WorkTied

/-- R165, R43, R44, R46, R47: the rights of a port change at a cold reset or at a legal write of that port's rights alone. -/
def Obligations.RightsChangeOnlyByTheirWrite : Prop :=
  ∀ (s t : State) (q : Port), step s = .next t → (t.ports.get q).rights ≠ (s.ports.get q).rights →
    s.pending.head? = some .coldReset
      ∨ s.pending.head? = some .portRightsWrite ∧ ∃ p r, s.engineWinner = some (p, r)
        ∧ r.row = .portRightsWrite ∧ r.checks (s.ports.get p).rights = none ∧ r.index = q.code
        ∧ Rights.ofValue r.value = some (t.ports.get q).rights

/-- R36, R44, R109, R181: a port that is not UP is sent no completion and no notice, and a DOWN port nothing at all, by any
command but the readiness or loss of its own link and a cold reset. -/
def Obligations.PortsThatAreNotUpAreSentCreditsAtMost : Prop :=
  ∀ (c : Instr) (s t : State) (p : Port), exec c s = .next t → (s.ports.get p).state ≠ .up →
    c ≠ .coldReset → c ≠ .portLinkReady p → c ≠ .portLinkLost p →
    ∃ sent, (t.ports.get p).out = (s.ports.get p).out ++ sent ∧ (∀ pkt ∈ sent, pkt.kindCode = 9)
      ∧ ((s.ports.get p).state = .down → sent = [])
end

