-- ==== Sys2Proof/Laws/State.lean ====
section
/-! SUPPORT. The small lemmas of the state's updates: for each shared operation, the fields it leaves alone, and for each value
kept per port, what a read after a write gives. -/

namespace Sys2Proof.Machine

/-! ### One value for each port -/

@[simp] theorem PerPort.get_set_same {α : Type} (x : PerPort α) (p : Port) (v : α) : (x.set p v).get p = v := by
  cases p <;> rfl

@[simp] theorem PerPort.get_set_other {α : Type} (x : PerPort α) {p q : Port} (v : α) (h : q ≠ p) :
    (x.set p v).get q = x.get q := by
  cases p <;> cases q <;> first | rfl | exact absurd rfl h

theorem PerPort.get_set {α : Type} (x : PerPort α) (p q : Port) (v : α) :
    (x.set p v).get q = if q = p then v else x.get q := by
  by_cases h : q = p
  · subst h; simp
  · simp [h]

@[simp] theorem PerPort.set_get {α : Type} (x : PerPort α) (p : Port) : x.set p (x.get p) = x := by cases p <;> rfl

@[simp] theorem PerPort.set_set {α : Type} (x : PerPort α) (p : Port) (v w : α) : (x.set p v).set p w = x.set p w := by
  cases p <;> rfl

theorem PerPort.set_comm {α : Type} (x : PerPort α) {p q : Port} (v w : α) (h : p ≠ q) :
    (x.set p v).set q w = (x.set q w).set p v := by
  cases p <;> cases q <;> first | rfl | exact absurd rfl h

@[simp] theorem PerPort.get_mod_same {α : Type} (x : PerPort α) (p : Port) (f : α → α) :
    (x.mod p f).get p = f (x.get p) := by
  simp [PerPort.mod]

@[simp] theorem PerPort.get_mod_other {α : Type} (x : PerPort α) {p q : Port} (f : α → α) (h : q ≠ p) :
    (x.mod p f).get q = x.get q := by
  simp [PerPort.mod, h]

theorem PerPort.get_mod {α : Type} (x : PerPort α) (p q : Port) (f : α → α) :
    (x.mod p f).get q = if q = p then f (x.get p) else x.get q := by
  simp [PerPort.mod, PerPort.get_set]

@[simp] theorem PerPort.get_map {α β : Type} (f : α → β) (x : PerPort α) (p : Port) : (x.map f).get p = f (x.get p) := by
  cases p <;> rfl

@[simp] theorem PerPort.get_zip {α β γ : Type} (f : α → β → γ) (x : PerPort α) (y : PerPort β) (p : Port) :
    (PerPort.zip f x y).get p = f (x.get p) (y.get p) := by
  cases p <;> rfl

@[simp] theorem PerPort.get_const {α : Type} (v : α) (p : Port) : (PerPort.const v).get p = v := by cases p <;> rfl

theorem PerPort.ext_get {α : Type} {x y : PerPort α} (h : ∀ p, x.get p = y.get p) : x = y := by
  cases x
  cases y
  have h0 := h .u0
  have h1 := h .u1
  have h2 := h .u2
  have h3 := h .u3
  simp only [PerPort.get] at h0 h1 h2 h3
  simp [h0, h1, h2, h3]

theorem PerPort.all_iff_get {α : Type} {P : Port → α → Prop} {x : PerPort α} : x.All P ↔ ∀ p, P p (x.get p) :=
  ⟨fun ⟨h0, h1, h2, h3⟩ p => by cases p <;> assumption, fun h => ⟨h .u0, h .u1, h .u2, h .u3⟩⟩

theorem PerPort.map_set {α β : Type} (f : α → β) (x : PerPort α) (p : Port) (v : α) :
    (x.set p v).map f = (x.map f).set p (f v) := by
  cases p <;> rfl

/-! ### The fields that an operation leaves alone -/

variable (s : State)

@[simp] theorem State.modPort_pending (p : Port) (f : PortBlock → PortBlock) : (s.modPort p f).pending = s.pending := rfl
@[simp] theorem State.modPort_regionMap (p : Port) (f : PortBlock → PortBlock) : (s.modPort p f).regionMap = s.regionMap := rfl
@[simp] theorem State.modPort_window (p : Port) (f : PortBlock → PortBlock) : (s.modPort p f).window = s.window := rfl
@[simp] theorem State.modPort_pwq (p : Port) (f : PortBlock → PortBlock) : (s.modPort p f).pwq = s.pwq := rfl
@[simp] theorem State.modPort_tracker (p : Port) (f : PortBlock → PortBlock) : (s.modPort p f).tracker = s.tracker := rfl
@[simp] theorem State.modPort_sched (p : Port) (f : PortBlock → PortBlock) : (s.modPort p f).sched = s.sched := rfl
@[simp] theorem State.modPort_sweep (p : Port) (f : PortBlock → PortBlock) : (s.modPort p f).sweep = s.sweep := rfl
@[simp] theorem State.modPort_ext (p : Port) (f : PortBlock → PortBlock) : (s.modPort p f).ext = s.ext := rfl
@[simp] theorem State.modPort_engine (p : Port) (f : PortBlock → PortBlock) : (s.modPort p f).engine = s.engine := rfl
@[simp] theorem State.modPort_log (p : Port) (f : PortBlock → PortBlock) : (s.modPort p f).log = s.log := rfl
@[simp] theorem State.modPort_stamp (p : Port) (f : PortBlock → PortBlock) : (s.modPort p f).stamp = s.stamp := rfl

@[simp] theorem State.withPwq_pending (es : List PwqEntry) : (s.withPwq es).pending = s.pending := rfl
@[simp] theorem State.withPwq_ports (es : List PwqEntry) : (s.withPwq es).ports = s.ports := rfl
@[simp] theorem State.withPwq_regionMap (es : List PwqEntry) : (s.withPwq es).regionMap = s.regionMap := rfl
@[simp] theorem State.withPwq_window (es : List PwqEntry) : (s.withPwq es).window = s.window := rfl
@[simp] theorem State.withPwq_tracker (es : List PwqEntry) : (s.withPwq es).tracker = s.tracker := rfl
@[simp] theorem State.withPwq_sched (es : List PwqEntry) : (s.withPwq es).sched = s.sched := rfl
@[simp] theorem State.withPwq_sweep (es : List PwqEntry) : (s.withPwq es).sweep = s.sweep := rfl
@[simp] theorem State.withPwq_ext (es : List PwqEntry) : (s.withPwq es).ext = s.ext := rfl
@[simp] theorem State.withPwq_engine (es : List PwqEntry) : (s.withPwq es).engine = s.engine := rfl
@[simp] theorem State.withPwq_log (es : List PwqEntry) : (s.withPwq es).log = s.log := rfl
@[simp] theorem State.withPwq_stamp (es : List PwqEntry) : (s.withPwq es).stamp = s.stamp := rfl

@[simp] theorem State.sealWhere_pending (sel : PwqEntry → Bool) : (s.sealWhere sel).pending = s.pending := rfl
@[simp] theorem State.sealWhere_ports (sel : PwqEntry → Bool) : (s.sealWhere sel).ports = s.ports := rfl
@[simp] theorem State.sealWhere_regionMap (sel : PwqEntry → Bool) : (s.sealWhere sel).regionMap = s.regionMap := rfl
@[simp] theorem State.sealWhere_window (sel : PwqEntry → Bool) : (s.sealWhere sel).window = s.window := rfl
@[simp] theorem State.sealWhere_tracker (sel : PwqEntry → Bool) : (s.sealWhere sel).tracker = s.tracker := rfl
@[simp] theorem State.sealWhere_sched (sel : PwqEntry → Bool) : (s.sealWhere sel).sched = s.sched := rfl
@[simp] theorem State.sealWhere_sweep (sel : PwqEntry → Bool) : (s.sealWhere sel).sweep = s.sweep := rfl
@[simp] theorem State.sealWhere_ext (sel : PwqEntry → Bool) : (s.sealWhere sel).ext = s.ext := rfl
@[simp] theorem State.sealWhere_engine (sel : PwqEntry → Bool) : (s.sealWhere sel).engine = s.engine := rfl
@[simp] theorem State.sealWhere_log (sel : PwqEntry → Bool) : (s.sealWhere sel).log = s.log := rfl
@[simp] theorem State.sealWhere_stamp (sel : PwqEntry → Bool) : (s.sealWhere sel).stamp = s.stamp := rfl

@[simp] theorem State.setDtag_pending (d : Fin 8) (x : DtagState) : (s.setDtag d x).pending = s.pending := rfl
@[simp] theorem State.setDtag_ports (d : Fin 8) (x : DtagState) : (s.setDtag d x).ports = s.ports := rfl
@[simp] theorem State.setDtag_regionMap (d : Fin 8) (x : DtagState) : (s.setDtag d x).regionMap = s.regionMap := rfl
@[simp] theorem State.setDtag_window (d : Fin 8) (x : DtagState) : (s.setDtag d x).window = s.window := rfl
@[simp] theorem State.setDtag_pwq (d : Fin 8) (x : DtagState) : (s.setDtag d x).pwq = s.pwq := rfl
@[simp] theorem State.setDtag_tracker (d : Fin 8) (x : DtagState) : (s.setDtag d x).tracker = s.tracker := rfl
@[simp] theorem State.setDtag_sweep (d : Fin 8) (x : DtagState) : (s.setDtag d x).sweep = s.sweep := rfl
@[simp] theorem State.setDtag_ext (d : Fin 8) (x : DtagState) : (s.setDtag d x).ext = s.ext := rfl
@[simp] theorem State.setDtag_engine (d : Fin 8) (x : DtagState) : (s.setDtag d x).engine = s.engine := rfl
@[simp] theorem State.setDtag_log (d : Fin 8) (x : DtagState) : (s.setDtag d x).log = s.log := rfl
@[simp] theorem State.setDtag_stamp (d : Fin 8) (x : DtagState) : (s.setDtag d x).stamp = s.stamp := rfl

@[simp] theorem State.setXtag_pending (t : Fin 8) (x : XtagState) : (s.setXtag t x).pending = s.pending := rfl
@[simp] theorem State.setXtag_ports (t : Fin 8) (x : XtagState) : (s.setXtag t x).ports = s.ports := rfl
@[simp] theorem State.setXtag_regionMap (t : Fin 8) (x : XtagState) : (s.setXtag t x).regionMap = s.regionMap := rfl
@[simp] theorem State.setXtag_window (t : Fin 8) (x : XtagState) : (s.setXtag t x).window = s.window := rfl
@[simp] theorem State.setXtag_pwq (t : Fin 8) (x : XtagState) : (s.setXtag t x).pwq = s.pwq := rfl
@[simp] theorem State.setXtag_tracker (t : Fin 8) (x : XtagState) : (s.setXtag t x).tracker = s.tracker := rfl
@[simp] theorem State.setXtag_sched (t : Fin 8) (x : XtagState) : (s.setXtag t x).sched = s.sched := rfl
@[simp] theorem State.setXtag_sweep (t : Fin 8) (x : XtagState) : (s.setXtag t x).sweep = s.sweep := rfl
@[simp] theorem State.setXtag_engine (t : Fin 8) (x : XtagState) : (s.setXtag t x).engine = s.engine := rfl
@[simp] theorem State.setXtag_log (t : Fin 8) (x : XtagState) : (s.setXtag t x).log = s.log := rfl
@[simp] theorem State.setXtag_stamp (t : Fin 8) (x : XtagState) : (s.setXtag t x).stamp = s.stamp := rfl

@[simp] theorem State.sendM_pending (pkt : Packet) : (s.sendM pkt).pending = s.pending := rfl
@[simp] theorem State.sendM_ports (pkt : Packet) : (s.sendM pkt).ports = s.ports := rfl
@[simp] theorem State.sendM_regionMap (pkt : Packet) : (s.sendM pkt).regionMap = s.regionMap := rfl
@[simp] theorem State.sendM_window (pkt : Packet) : (s.sendM pkt).window = s.window := rfl
@[simp] theorem State.sendM_pwq (pkt : Packet) : (s.sendM pkt).pwq = s.pwq := rfl
@[simp] theorem State.sendM_tracker (pkt : Packet) : (s.sendM pkt).tracker = s.tracker := rfl
@[simp] theorem State.sendM_sweep (pkt : Packet) : (s.sendM pkt).sweep = s.sweep := rfl
@[simp] theorem State.sendM_ext (pkt : Packet) : (s.sendM pkt).ext = s.ext := rfl
@[simp] theorem State.sendM_engine (pkt : Packet) : (s.sendM pkt).engine = s.engine := rfl
@[simp] theorem State.sendM_log (pkt : Packet) : (s.sendM pkt).log = s.log := rfl
@[simp] theorem State.sendM_stamp (pkt : Packet) : (s.sendM pkt).stamp = s.stamp := rfl

@[simp] theorem State.addEntry_pending (p : Port) (tag : BitVec 8) (work : TrackWork) (st : TrackState) : (s.addEntry p tag work st).pending = s.pending := rfl
@[simp] theorem State.addEntry_ports (p : Port) (tag : BitVec 8) (work : TrackWork) (st : TrackState) : (s.addEntry p tag work st).ports = s.ports := rfl
@[simp] theorem State.addEntry_regionMap (p : Port) (tag : BitVec 8) (work : TrackWork) (st : TrackState) : (s.addEntry p tag work st).regionMap = s.regionMap := rfl
@[simp] theorem State.addEntry_window (p : Port) (tag : BitVec 8) (work : TrackWork) (st : TrackState) : (s.addEntry p tag work st).window = s.window := rfl
@[simp] theorem State.addEntry_pwq (p : Port) (tag : BitVec 8) (work : TrackWork) (st : TrackState) : (s.addEntry p tag work st).pwq = s.pwq := rfl
@[simp] theorem State.addEntry_sched (p : Port) (tag : BitVec 8) (work : TrackWork) (st : TrackState) : (s.addEntry p tag work st).sched = s.sched := rfl
@[simp] theorem State.addEntry_sweep (p : Port) (tag : BitVec 8) (work : TrackWork) (st : TrackState) : (s.addEntry p tag work st).sweep = s.sweep := rfl
@[simp] theorem State.addEntry_ext (p : Port) (tag : BitVec 8) (work : TrackWork) (st : TrackState) : (s.addEntry p tag work st).ext = s.ext := rfl
@[simp] theorem State.addEntry_engine (p : Port) (tag : BitVec 8) (work : TrackWork) (st : TrackState) : (s.addEntry p tag work st).engine = s.engine := rfl
@[simp] theorem State.addEntry_log (p : Port) (tag : BitVec 8) (work : TrackWork) (st : TrackState) : (s.addEntry p tag work st).log = s.log := rfl

@[simp] theorem State.setEntryState_pending (i : Fin 24) (st : TrackState) : (s.setEntryState i st).pending = s.pending := rfl
@[simp] theorem State.setEntryState_ports (i : Fin 24) (st : TrackState) : (s.setEntryState i st).ports = s.ports := rfl
@[simp] theorem State.setEntryState_regionMap (i : Fin 24) (st : TrackState) : (s.setEntryState i st).regionMap = s.regionMap := rfl
@[simp] theorem State.setEntryState_window (i : Fin 24) (st : TrackState) : (s.setEntryState i st).window = s.window := rfl
@[simp] theorem State.setEntryState_pwq (i : Fin 24) (st : TrackState) : (s.setEntryState i st).pwq = s.pwq := rfl
@[simp] theorem State.setEntryState_sched (i : Fin 24) (st : TrackState) : (s.setEntryState i st).sched = s.sched := rfl
@[simp] theorem State.setEntryState_sweep (i : Fin 24) (st : TrackState) : (s.setEntryState i st).sweep = s.sweep := rfl
@[simp] theorem State.setEntryState_ext (i : Fin 24) (st : TrackState) : (s.setEntryState i st).ext = s.ext := rfl
@[simp] theorem State.setEntryState_engine (i : Fin 24) (st : TrackState) : (s.setEntryState i st).engine = s.engine := rfl
@[simp] theorem State.setEntryState_log (i : Fin 24) (st : TrackState) : (s.setEntryState i st).log = s.log := rfl
@[simp] theorem State.setEntryState_stamp (i : Fin 24) (st : TrackState) : (s.setEntryState i st).stamp = s.stamp := rfl

@[simp] theorem State.endEntry_pending (e : TrackerEntry) (st : Status) (data : List Byte) : (s.endEntry e st data).pending = s.pending := rfl
@[simp] theorem State.endEntry_regionMap (e : TrackerEntry) (st : Status) (data : List Byte) : (s.endEntry e st data).regionMap = s.regionMap := rfl
@[simp] theorem State.endEntry_window (e : TrackerEntry) (st : Status) (data : List Byte) : (s.endEntry e st data).window = s.window := rfl
@[simp] theorem State.endEntry_pwq (e : TrackerEntry) (st : Status) (data : List Byte) : (s.endEntry e st data).pwq = s.pwq := rfl
@[simp] theorem State.endEntry_sched (e : TrackerEntry) (st : Status) (data : List Byte) : (s.endEntry e st data).sched = s.sched := rfl
@[simp] theorem State.endEntry_sweep (e : TrackerEntry) (st : Status) (data : List Byte) : (s.endEntry e st data).sweep = s.sweep := rfl
@[simp] theorem State.endEntry_ext (e : TrackerEntry) (st : Status) (data : List Byte) : (s.endEntry e st data).ext = s.ext := rfl
@[simp] theorem State.endEntry_engine (e : TrackerEntry) (st : Status) (data : List Byte) : (s.endEntry e st data).engine = s.engine := rfl
@[simp] theorem State.endEntry_log (e : TrackerEntry) (st : Status) (data : List Byte) : (s.endEntry e st data).log = s.log := rfl
@[simp] theorem State.endEntry_stamp (e : TrackerEntry) (st : Status) (data : List Byte) : (s.endEntry e st data).stamp = s.stamp := rfl

@[simp] theorem State.endEntries_pending (sel : TrackerEntry → Bool) (st : Status) : (s.endEntries sel st).pending = s.pending := rfl
@[simp] theorem State.endEntries_regionMap (sel : TrackerEntry → Bool) (st : Status) : (s.endEntries sel st).regionMap = s.regionMap := rfl
@[simp] theorem State.endEntries_window (sel : TrackerEntry → Bool) (st : Status) : (s.endEntries sel st).window = s.window := rfl
@[simp] theorem State.endEntries_pwq (sel : TrackerEntry → Bool) (st : Status) : (s.endEntries sel st).pwq = s.pwq := rfl
@[simp] theorem State.endEntries_sched (sel : TrackerEntry → Bool) (st : Status) : (s.endEntries sel st).sched = s.sched := rfl
@[simp] theorem State.endEntries_sweep (sel : TrackerEntry → Bool) (st : Status) : (s.endEntries sel st).sweep = s.sweep := rfl
@[simp] theorem State.endEntries_ext (sel : TrackerEntry → Bool) (st : Status) : (s.endEntries sel st).ext = s.ext := rfl
@[simp] theorem State.endEntries_engine (sel : TrackerEntry → Bool) (st : Status) : (s.endEntries sel st).engine = s.engine := rfl
@[simp] theorem State.endEntries_log (sel : TrackerEntry → Bool) (st : Status) : (s.endEntries sel st).log = s.log := rfl
@[simp] theorem State.endEntries_stamp (sel : TrackerEntry → Bool) (st : Status) : (s.endEntries sel st).stamp = s.stamp := rfl

@[simp] theorem State.shrinkFlushes_pending (gone : Fin 16 → Bool) : (s.shrinkFlushes gone).pending = s.pending := rfl
@[simp] theorem State.shrinkFlushes_regionMap (gone : Fin 16 → Bool) : (s.shrinkFlushes gone).regionMap = s.regionMap := rfl
@[simp] theorem State.shrinkFlushes_window (gone : Fin 16 → Bool) : (s.shrinkFlushes gone).window = s.window := rfl
@[simp] theorem State.shrinkFlushes_pwq (gone : Fin 16 → Bool) : (s.shrinkFlushes gone).pwq = s.pwq := rfl
@[simp] theorem State.shrinkFlushes_sched (gone : Fin 16 → Bool) : (s.shrinkFlushes gone).sched = s.sched := rfl
@[simp] theorem State.shrinkFlushes_sweep (gone : Fin 16 → Bool) : (s.shrinkFlushes gone).sweep = s.sweep := rfl
@[simp] theorem State.shrinkFlushes_ext (gone : Fin 16 → Bool) : (s.shrinkFlushes gone).ext = s.ext := rfl
@[simp] theorem State.shrinkFlushes_engine (gone : Fin 16 → Bool) : (s.shrinkFlushes gone).engine = s.engine := rfl
@[simp] theorem State.shrinkFlushes_log (gone : Fin 16 → Bool) : (s.shrinkFlushes gone).log = s.log := rfl
@[simp] theorem State.shrinkFlushes_stamp (gone : Fin 16 → Bool) : (s.shrinkFlushes gone).stamp = s.stamp := rfl

@[simp] theorem State.releaseHeld_pending (slot : Fin 16) : (s.releaseHeld slot).pending = s.pending := rfl
@[simp] theorem State.releaseHeld_ports (slot : Fin 16) : (s.releaseHeld slot).ports = s.ports := rfl
@[simp] theorem State.releaseHeld_regionMap (slot : Fin 16) : (s.releaseHeld slot).regionMap = s.regionMap := rfl
@[simp] theorem State.releaseHeld_window (slot : Fin 16) : (s.releaseHeld slot).window = s.window := rfl
@[simp] theorem State.releaseHeld_pwq (slot : Fin 16) : (s.releaseHeld slot).pwq = s.pwq := rfl
@[simp] theorem State.releaseHeld_sched (slot : Fin 16) : (s.releaseHeld slot).sched = s.sched := rfl
@[simp] theorem State.releaseHeld_sweep (slot : Fin 16) : (s.releaseHeld slot).sweep = s.sweep := rfl
@[simp] theorem State.releaseHeld_ext (slot : Fin 16) : (s.releaseHeld slot).ext = s.ext := rfl
@[simp] theorem State.releaseHeld_engine (slot : Fin 16) : (s.releaseHeld slot).engine = s.engine := rfl
@[simp] theorem State.releaseHeld_log (slot : Fin 16) : (s.releaseHeld slot).log = s.log := rfl
@[simp] theorem State.releaseHeld_stamp (slot : Fin 16) : (s.releaseHeld slot).stamp = s.stamp := rfl

@[simp] theorem State.countCorrected_pending : (s.countCorrected).pending = s.pending := rfl
@[simp] theorem State.countCorrected_ports : (s.countCorrected).ports = s.ports := rfl
@[simp] theorem State.countCorrected_regionMap : (s.countCorrected).regionMap = s.regionMap := rfl
@[simp] theorem State.countCorrected_window : (s.countCorrected).window = s.window := rfl
@[simp] theorem State.countCorrected_pwq : (s.countCorrected).pwq = s.pwq := rfl
@[simp] theorem State.countCorrected_tracker : (s.countCorrected).tracker = s.tracker := rfl
@[simp] theorem State.countCorrected_sched : (s.countCorrected).sched = s.sched := rfl
@[simp] theorem State.countCorrected_ext : (s.countCorrected).ext = s.ext := rfl
@[simp] theorem State.countCorrected_engine : (s.countCorrected).engine = s.engine := rfl
@[simp] theorem State.countCorrected_log : (s.countCorrected).log = s.log := rfl
@[simp] theorem State.countCorrected_stamp : (s.countCorrected).stamp = s.stamp := rfl

@[simp] theorem State.orphanPort_pending (p : Port) : (s.orphanPort p).pending = s.pending := rfl
@[simp] theorem State.orphanPort_ports (p : Port) : (s.orphanPort p).ports = s.ports := rfl
@[simp] theorem State.orphanPort_regionMap (p : Port) : (s.orphanPort p).regionMap = s.regionMap := rfl
@[simp] theorem State.orphanPort_window (p : Port) : (s.orphanPort p).window = s.window := rfl
@[simp] theorem State.orphanPort_pwq (p : Port) : (s.orphanPort p).pwq = s.pwq := rfl
@[simp] theorem State.orphanPort_sched (p : Port) : (s.orphanPort p).sched = s.sched := rfl
@[simp] theorem State.orphanPort_sweep (p : Port) : (s.orphanPort p).sweep = s.sweep := rfl
@[simp] theorem State.orphanPort_ext (p : Port) : (s.orphanPort p).ext = s.ext := rfl
@[simp] theorem State.orphanPort_engine (p : Port) : (s.orphanPort p).engine = s.engine := rfl
@[simp] theorem State.orphanPort_log (p : Port) : (s.orphanPort p).log = s.log := rfl
@[simp] theorem State.orphanPort_stamp (p : Port) : (s.orphanPort p).stamp = s.stamp := rfl

@[simp] theorem State.withStaged_pending (t : RegionTable) : (s.withStaged t).pending = s.pending := rfl
@[simp] theorem State.withStaged_ports (t : RegionTable) : (s.withStaged t).ports = s.ports := rfl
@[simp] theorem State.withStaged_window (t : RegionTable) : (s.withStaged t).window = s.window := rfl
@[simp] theorem State.withStaged_pwq (t : RegionTable) : (s.withStaged t).pwq = s.pwq := rfl
@[simp] theorem State.withStaged_tracker (t : RegionTable) : (s.withStaged t).tracker = s.tracker := rfl
@[simp] theorem State.withStaged_sched (t : RegionTable) : (s.withStaged t).sched = s.sched := rfl
@[simp] theorem State.withStaged_sweep (t : RegionTable) : (s.withStaged t).sweep = s.sweep := rfl
@[simp] theorem State.withStaged_ext (t : RegionTable) : (s.withStaged t).ext = s.ext := rfl
@[simp] theorem State.withStaged_engine (t : RegionTable) : (s.withStaged t).engine = s.engine := rfl
@[simp] theorem State.withStaged_log (t : RegionTable) : (s.withStaged t).log = s.log := rfl
@[simp] theorem State.withStaged_stamp (t : RegionTable) : (s.withStaged t).stamp = s.stamp := rfl

@[simp] theorem State.select_pending (p : Port) : (s.select p).pending = s.pending := rfl
@[simp] theorem State.select_regionMap (p : Port) : (s.select p).regionMap = s.regionMap := rfl
@[simp] theorem State.select_window (p : Port) : (s.select p).window = s.window := rfl
@[simp] theorem State.select_pwq (p : Port) : (s.select p).pwq = s.pwq := rfl
@[simp] theorem State.select_tracker (p : Port) : (s.select p).tracker = s.tracker := rfl
@[simp] theorem State.select_sched (p : Port) : (s.select p).sched = s.sched := rfl
@[simp] theorem State.select_sweep (p : Port) : (s.select p).sweep = s.sweep := rfl
@[simp] theorem State.select_ext (p : Port) : (s.select p).ext = s.ext := rfl
@[simp] theorem State.select_log (p : Port) : (s.select p).log = s.log := rfl
@[simp] theorem State.select_stamp (p : Port) : (s.select p).stamp = s.stamp := rfl

@[simp] theorem State.modPort_ports (p : Port) (f : PortBlock → PortBlock) : (s.modPort p f).ports = s.ports.mod p f := rfl

@[simp] theorem State.withPwq_pwq (es : List PwqEntry) : (s.withPwq es).pwq = { s.pwq with entries := es } := rfl

@[simp] theorem State.select_engine (p : Port) : (s.select p).engine = p.next := rfl

@[simp] theorem State.select_ports (p : Port) : (s.select p).ports = s.ports.mod p PortBlock.leave := rfl

end Sys2Proof.Machine
end

