-- ==== Sys2Proof/Laws/Ops.lean ====
section
/-! SUPPORT. One lemma for each shared operation that says what it can do: credits and the end of an event, records, the Engine's
selection, tracker entries and queue entries. -/

namespace Sys2Proof.Machine

/-! ### Credits and the end of an event (R40, R182) -/

@[simp] theorem PortBlock.returnCredits_of_owed_zero {b : PortBlock} (h : b.owed = 0) : b.returnCredits = b := by
  simp [PortBlock.returnCredits, h]

/-- The credits that an event leaves owed to a port that is not DOWN go out in one CREDIT. -/
theorem PortBlock.returnCredits_of_owed {b : PortBlock} (h : b.owed ≠ 0) (hs : b.state ≠ .down) :
    b.returnCredits = { b with out := b.out ++ [creditPacket b.owed], credits := b.credits + b.owed, owed := 0 } := by
  simp [PortBlock.returnCredits, PortBlock.send, h, hs]

theorem PortBlock.returnCredits_state (b : PortBlock) : b.returnCredits.state = b.state := by
  unfold PortBlock.returnCredits
  split <;> rfl

/-- A head that leaves while nothing else is owed returns exactly its own credit. -/
theorem PortBlock.leave_returnCredits {b : PortBlock} (h : b.owed = 0) (hs : b.state ≠ .down) :
    b.leave.returnCredits = b.afterHead [] := by
  rw [PortBlock.returnCredits_of_owed (by simp [PortBlock.leave, h]) (by simpa [PortBlock.leave] using hs)]
  simp [PortBlock.leave, PortBlock.afterHead, h]

theorem State.NothingOwed.owed_get {s : State} (h : s.NothingOwed) (p : Port) : (s.ports.get p).owed = 0 :=
  PerPort.all_iff_get.mp h p

theorem State.CreditsAddUp.nothingOwed {s : State} (h : s.CreditsAddUp) : s.NothingOwed :=
  PerPort.all_iff_get.mpr fun p => (PerPort.all_iff_get.mp h p).1

/-- Where nothing is owed, no CREDIT goes out. -/
theorem PerPort.map_returnCredits_of_nothingOwed {x : PerPort PortBlock} (h : ∀ p, (x.get p).owed = 0) :
    x.map PortBlock.returnCredits = x :=
  PerPort.ext_get fun p => by simp [h p]

/-- Where only one port may be owed credits, only that port's block changes. -/
theorem PerPort.map_returnCredits_set {x : PerPort PortBlock} (p : Port) (b : PortBlock)
    (h : ∀ q, q ≠ p → (x.get q).owed = 0) :
    (x.set p b).map PortBlock.returnCredits = x.set p b.returnCredits := by
  refine PerPort.ext_get fun q => ?_
  by_cases hq : q = p
  · subst hq; simp
  · simp [hq, h q hq]

/-- An event that lets no request leave hands over its records and nothing else. -/
theorem Event.close_of_nothingOwed {s : State} (h : s.NothingOwed) (rs : List ErrorRecord) :
    Event.close (s, rs) = s.handAll rs := by
  simp [Event.close, PerPort.map_returnCredits_of_nothingOwed h.owed_get]

@[simp] theorem State.handAll_nil (s : State) : s.handAll [] = s := rfl

@[simp] theorem State.handAll_cons (s : State) (r : ErrorRecord) (rs : List ErrorRecord) :
    s.handAll (r :: rs) = (s.hand r).handAll rs := rfl

theorem State.handAll_append (s : State) (rs rs' : List ErrorRecord) :
    s.handAll (rs ++ rs') = (s.handAll rs).handAll rs' := by
  simp [State.handAll]

/-! ### Records (R177, R178, R181) -/

/-- The log after a record is handed to it: it depends on the log alone. -/
def ErrorLog.take (l : ErrorLog) (r : ErrorRecord) : ErrorLog :=
  if l.records.length < Config.logRecords then
    { l with records := l.records ++ [{ sequence := l.sequence, record := r }], sequence := l.sequence + 1 }
  else { l with overflow := saturate 255 l.overflow }

/-- A record changes the log, and the packets sent to the notice port while that is UP. -/
theorem State.hand_cases (s : State) (r : ErrorRecord) :
    s.hand r = { s with log := s.log.take r }
      ∨ (s.ports.get s.log.noticePort).state = .up ∧ ∃ pkt,
        s.hand r = State.modPort { s with log := s.log.take r } s.log.noticePort (·.send pkt) := by
  unfold State.hand ErrorLog.take
  split
  · split
    · next h => exact .inr ⟨h.2, _, rfl⟩
    · exact .inl rfl
  · exact .inl rfl

@[simp] theorem State.hand_log (s : State) (r : ErrorRecord) : (s.hand r).log = s.log.take r := by
  obtain h | ⟨-, _, h⟩ := s.hand_cases r
  · rw [h]
  · rw [h]; rfl

/-- A record leaves every other block alone. -/
theorem State.hand_frame (s : State) (r : ErrorRecord) :
    (s.hand r).pending = s.pending ∧ (s.hand r).regionMap = s.regionMap ∧ (s.hand r).window = s.window
      ∧ (s.hand r).pwq = s.pwq ∧ (s.hand r).tracker = s.tracker ∧ (s.hand r).sched = s.sched
      ∧ (s.hand r).sweep = s.sweep ∧ (s.hand r).ext = s.ext ∧ (s.hand r).engine = s.engine
      ∧ (s.hand r).stamp = s.stamp := by
  obtain h | ⟨-, _, h⟩ := s.hand_cases r <;> rw [h] <;> exact ⟨rfl, rfl, rfl, rfl, rfl, rfl, rfl, rfl, rfl, rfl⟩

/-- A record leaves a port as it is but for a NOTICE sent to it while it is UP. -/
theorem State.hand_port (s : State) (r : ErrorRecord) (p : Port) :
    (s.hand r).ports.get p = s.ports.get p
      ∨ (s.ports.get p).state = .up ∧ ∃ pkt, (s.hand r).ports.get p = (s.ports.get p).send pkt := by
  obtain h | ⟨hs, pkt, h⟩ := s.hand_cases r
  · exact .inl (by rw [h])
  · by_cases hp : p = s.log.noticePort
    · subst hp
      exact .inr ⟨hs, pkt, by rw [h]; simp⟩
    · exact .inl (by rw [h]; simp [hp])

theorem State.handAll_frame (s : State) (rs : List ErrorRecord) :
    (s.handAll rs).pending = s.pending ∧ (s.handAll rs).regionMap = s.regionMap ∧ (s.handAll rs).window = s.window
      ∧ (s.handAll rs).pwq = s.pwq ∧ (s.handAll rs).tracker = s.tracker ∧ (s.handAll rs).sched = s.sched
      ∧ (s.handAll rs).sweep = s.sweep ∧ (s.handAll rs).ext = s.ext ∧ (s.handAll rs).engine = s.engine
      ∧ (s.handAll rs).stamp = s.stamp := by
  induction rs generalizing s with
  | nil => exact ⟨rfl, rfl, rfl, rfl, rfl, rfl, rfl, rfl, rfl, rfl⟩
  | cons r rs ih =>
    obtain ⟨h1, h2, h3, h4, h5, h6, h7, h8, h9, h10⟩ := ih (s.hand r)
    obtain ⟨g1, g2, g3, g4, g5, g6, g7, g8, g9, g10⟩ := s.hand_frame r
    exact ⟨h1.trans g1, h2.trans g2, h3.trans g3, h4.trans g4, h5.trans g5, h6.trans g6, h7.trans g7, h8.trans g8,
      h9.trans g9, h10.trans g10⟩

/-- The log after several records depends on the log alone. -/
theorem State.handAll_log (s : State) (rs : List ErrorRecord) : (s.handAll rs).log = rs.foldl ErrorLog.take s.log := by
  induction rs generalizing s with
  | nil => rfl
  | cons r rs ih => simp [ih]

/-- The first of several records is noticed before the others. -/
theorem State.notices_cons (s : State) (p : Port) (r : ErrorRecord) (rs : List ErrorRecord) :
    s.notices p (r :: rs) = s.notices p [r] ++ (s.hand r).notices p rs := by
  have hs : ((s.hand r).ports.get p).state = (s.ports.get p).state := by
    obtain h | ⟨-, _, h⟩ := s.hand_port r p
    · rw [h]
    · rw [h]; rfl
  have hp : (s.hand r).log.noticePort = s.log.noticePort ∧ (s.hand r).log.noticeEnable = s.log.noticeEnable := by
    rw [State.hand_log]; unfold ErrorLog.take; split <;> exact ⟨rfl, rfl⟩
  unfold State.notices
  rw [hs, hp.1, hp.2]
  split
  · rw [State.hand_log]
    unfold ErrorLog.take
    by_cases hl : s.log.records.length < 8
    · obtain ⟨k, hk⟩ : ∃ k, 8 - s.log.records.length = k + 1 := ⟨7 - s.log.records.length, by omega⟩
      have hk' : 8 - (s.log.records.length + 1) = k := by omega
      have he : ∀ i, s.log.sequence + BitVec.ofNat 16 (i + 1) = s.log.sequence + 1 + BitVec.ofNat 16 i := fun i => by
        rw [Nat.add_comm, BitVec.ofNat_add, BitVec.add_assoc]
        rfl
      simp only [he, Config.logRecords, hl, if_true, List.length_append, List.length_singleton, hk, hk', List.take_succ_cons,
        List.mapIdx_cons, List.take_nil, List.mapIdx_nil, List.singleton_append]
    · have h0 : 8 - s.log.records.length = 0 := by omega
      simp [Config.logRecords, hl, h0]
  · rfl

/-- What one record adds to a port: its NOTICE. -/
theorem State.hand_port_eq (s : State) (r : ErrorRecord) (p : Port) :
    (s.hand r).ports.get p = { s.ports.get p with out := (s.ports.get p).out ++ s.notices p [r] } := by
  unfold State.hand State.notices
  by_cases hl : s.log.records.length < 8
  · have h1 : 8 - s.log.records.length = (7 - s.log.records.length) + 1 := by omega
    by_cases hp : p = s.log.noticePort
    · subst hp
      by_cases hc : s.log.noticeEnable = true ∧ (s.ports.get s.log.noticePort).state = .up
      · simp [Config.logRecords, hl, h1, hc, PortBlock.send]
      · have hc' : ¬(s.log.noticePort = s.log.noticePort ∧ s.log.noticeEnable = true
            ∧ (s.ports.get s.log.noticePort).state = .up) := fun h => hc h.2
        simp [Config.logRecords, hl, hc]
    · simp only [Config.logRecords, hl, if_true, hp, false_and, if_false, List.append_nil]
      split <;> simp [hp]
  · have h0 : 8 - s.log.records.length = 0 := by omega
    simp [Config.logRecords, hl, h0]

/-- The records of an event leave a port as it is but for the NOTICEs it is sent (R177, R181, R182). -/
theorem State.handAll_port (s : State) (rs : List ErrorRecord) (p : Port) :
    (s.handAll rs).ports.get p = { s.ports.get p with out := (s.ports.get p).out ++ s.notices p rs } := by
  induction rs generalizing s with
  | nil => simp [State.notices]
  | cons r rs ih => rw [State.handAll_cons, ih, State.hand_port_eq, State.notices_cons s p r rs, List.append_assoc]

/-! ### The Engine (R159 to R161) -/

/-- A service event either changes nothing, or selects the winner, whose request is of the row, and completes it with a failing check's
status or with what the service leaves. -/
theorem State.serve_cases (s : State) (row : CtrlRow) (service : Port → Request → State → Served) :
    ((∀ p r, s.engineWinner = some (p, r) → r.row ≠ row) ∧ s.serve row service = (s, []))
      ∨ ∃ p r, s.engineWinner = some (p, r) ∧ r.row = row
        ∧ ((∃ st, r.checks (s.ports.get p).rights = some st
              ∧ s.serve row service = ({ state := s.select p, status := st } : Served).reply p r.tag)
          ∨ (r.checks (s.ports.get p).rights = none
              ∧ s.serve row service = (service p r (s.select p)).reply p r.tag)) := by
  unfold State.serve
  split
  · next p r h =>
    by_cases hr : r.row = row
    · refine .inr ⟨p, r, h, hr, ?_⟩
      simp only [hr, if_true]
      cases hc : r.checks (s.ports.get p).rights with
      | some st => exact .inl ⟨st, rfl, rfl⟩
      | none => exact .inr ⟨rfl, rfl⟩
    · refine .inl ⟨fun p' r' h' => ?_, by simp [hr]⟩
      rw [h] at h'
      cases h'
      exact hr
  · next h => exact .inl ⟨fun p r h' => by simp [h] at h', rfl⟩

/-- The winner of a selection is UP with the request at its head in WAIT_ENGINE. -/
theorem State.engineWinner_head {s : State} {p : Port} {r : Request} (h : s.engineWinner = some (p, r)) :
    (s.ports.get p).state = .up ∧ (s.ports.get p).progress = .waitEngine ∧ ∃ rest, (s.ports.get p).ingress = r :: rest := by
  obtain ⟨q, -, hq⟩ := List.exists_of_findSome?_eq_some h
  rw [Option.map_eq_some_iff] at hq
  obtain ⟨r', hc, he⟩ := hq
  cases he
  simp only [State.controlCandidate] at hc
  split at hc
  · next hs hp hi =>
    cases hc
    exact ⟨hs, hp, _, hi⟩
  · cases hc

/-- A service that passes the checks, from the selected request to the end of its event, where nothing was owed: the service runs on
the state with the request gone, and the completion stands before the CREDIT. -/
theorem State.serve_of_serves {s : State} {p : Port} {r : Request} {row : CtrlRow} (h : s.Serves p r row)
    (service : Port → Request → State → Served) :
    s.serve row service = (service p r (s.select p)).reply p r.tag := by
  obtain ⟨⟨-, hw, hr⟩, hc⟩ := h
  simp [State.serve, hw, hr, hc]

/-- The end of a service that leaves the ports as the selection made them. -/
theorem Served.close_reply {s : State} {p : Port} {tag : BitVec 8} (v : Served) (hn : s.NothingOwed)
    (hs : (s.ports.get p).state = .up) (hv : v.state.ports = (s.select p).ports) :
    Event.close (v.reply p tag) =
      State.handAll { v.state with
        ports := s.ports.set p ((s.ports.get p).afterHead [completionPacket tag v.status (some v.value) []]) } v.records := by
  have h0 := hn.owed_get
  have hp : ((v.state.modPort p (·.complete tag v.status (some v.value) [])).ports).map PortBlock.returnCredits
      = s.ports.set p ((s.ports.get p).afterHead [completionPacket tag v.status (some v.value) []]) := by
    refine PerPort.ext_get fun q => ?_
    by_cases hq : q = p
    · subst hq
      simp [hv, PortBlock.complete, PortBlock.leave, PortBlock.send, hs, PortBlock.returnCredits, PortBlock.afterHead, h0]
    · simp [hv, hq, h0]
  simp only [Event.close, Served.reply, hp]
  rfl

/-- A service that passes the checks and leaves the ports as the selection made them, to the end of its event (R159, R160). -/
theorem State.close_serve {s : State} {p : Port} {r : Request} {row : CtrlRow} (h : s.Serves p r row)
    (service : Port → Request → State → Served) (hv : (service p r (s.select p)).state.ports = (s.select p).ports) :
    let v := service p r (s.select p)
    Event.close (s.serve row service) =
      State.handAll { v.state with
        ports := s.ports.set p ((s.ports.get p).afterHead [completionPacket r.tag v.status (some v.value) []]) }
        v.records := by
  rw [State.serve_of_serves h, Served.close_reply _ h.1.1 (State.engineWinner_head h.1.2.1).1 hv]

/-! ### The ends and waits of a head (R51, R53) -/

/-- A port whose head is this request has it first in its queue. -/
theorem State.ingress_of_head {s : State} {p : Port} {r : Request} (h : (s.ports.get p).ingress.head? = some r) :
    ∃ rest, (s.ports.get p).ingress = r :: rest := by
  cases hi : (s.ports.get p).ingress <;> simp_all

/-- Where nothing was owed, the end of an event that changes one port's block returns that block's credits alone. -/
theorem Event.close_port {s u : State} (hn : s.NothingOwed) {p : Port} {b : PortBlock} (hu : u.ports = s.ports.set p b)
    (rs : List ErrorRecord) :
    Event.close (u, rs) = State.handAll { u with ports := s.ports.set p b.returnCredits } rs := by
  simp only [Event.close, hu]
  rw [PerPort.map_returnCredits_set p b fun q _ => hn.owed_get q]

/-- A head that leaves, after an event that changed no port. -/
theorem Event.close_leave {s u : State} (hn : s.NothingOwed) {p : Port} (hs : (s.ports.get p).state = .up)
    (hu : u.ports = s.ports) (rs : List ErrorRecord) :
    Event.close (u.modPort p (·.leave), rs) = (u.afterHead p []).handAll rs := by
  rw [Event.close_port (p := p) hn (by rw [State.modPort_ports, hu]; rfl)]
  rw [PortBlock.leave_returnCredits (hn.owed_get p) (by simp [hs])]
  simp [State.afterHead, State.modPort, PerPort.mod, hu]

/-- A head that is answered. -/
theorem Event.close_answerHead {s : State} (hn : s.NothingOwed) {p : Port} (hs : (s.ports.get p).state = .up) (r : Request)
    (st : Status) : Event.close (s.answerHead p r st) = s.afterHead p [completionPacket r.tag st r.emptyValue []] := by
  unfold State.answerHead
  rw [Event.close_port (p := p) hn rfl]
  simp [PortBlock.answer, PortBlock.complete, hs, PortBlock.leave, PortBlock.send, PortBlock.returnCredits, hn.owed_get p,
    State.afterHead, PortBlock.afterHead, State.modPort, PerPort.mod]

/-- A head, a posted write, that is dropped. -/
theorem Event.close_dropHead {s : State} (hn : s.NothingOwed) {p : Port} (hs : (s.ports.get p).state = .up) (r : Request)
    (kind : RecordKind) (c : Option Classification) :
    Event.close (s.dropHead p r kind c) = State.hand (s.afterDrop p) (dropRecord kind p r c) := by
  unfold State.dropHead
  rw [Event.close_port (p := p) hn rfl]
  simp [PortBlock.dropPosted, PortBlock.setFlag, hs, PortBlock.leave, PortBlock.send, PortBlock.returnCredits, hn.owed_get p,
    State.afterDrop, PortBlock.afterHead, State.modPort, PerPort.mod]

/-- A head that waits. -/
theorem Event.close_waitHead {s : State} (hn : s.NothingOwed) {p : Port} (g : Progress) (c : Option Classification) :
    Event.close (s.waitHead p g c) = s.withPort p { s.ports.get p with progress := g, cls := c } := by
  unfold State.waitHead
  rw [Event.close_port (p := p) hn rfl]
  rw [PortBlock.returnCredits_of_owed_zero (by simpa [PortBlock.wait] using hn.owed_get p)]
  rfl

/-- The room condition, written out (R59). -/
theorem State.room_eq_true {s : State} {p : Port} : s.room p = true ↔ s.RoomFor p := by
  rw [State.room, Bool.and_eq_true, decide_eq_true_iff, decide_eq_true_iff]
  exact Iff.rfl

/-- A live entry holds the tag, written out (R58). -/
theorem State.tagLive_eq_true {s : State} {p : Port} {tag : BitVec 8} : s.tagLive p tag = true ↔ s.TagTaken p tag := by
  simp [State.tagLive, State.TagTaken, and_assoc]

/-! ### The lowest free number (R71, R96, R119, R151) -/

/-- A search of a range in order finds the first number that passes. -/
theorem find?_finRange_eq_some {n : Nat} {P : Fin n → Bool} {i : Fin n} :
    (List.finRange n).find? P = some i ↔ P i = true ∧ ∀ j, j < i → P j = false := by
  rw [List.find?_eq_some_iff_getElem]
  constructor
  · rintro ⟨hp, k, hk, hi, hlt⟩
    refine ⟨hp, fun j hj => ?_⟩
    have hik : (i : Nat) = k := by rw [← hi]; simp
    have := hlt j (by omega)
    simpa using this
  · rintro ⟨hp, hlt⟩
    refine ⟨hp, i, by simp, by simp, fun j hj => ?_⟩
    simpa using hlt ⟨j, by omega⟩ hj

theorem State.freeDtag_eq_some {s : State} {d : Fin 8} :
    s.freeDtag = some d ↔ s.sched.dtags[d] = .free ∧ ∀ y : Fin 8, y < d → s.sched.dtags[y] ≠ .free := by
  simp [State.freeDtag, find?_finRange_eq_some]

/-! ### Tracker entries -/

/-- A tracker entry's completion, written out: it goes to its port while the entry is live and the port UP (R109). -/
theorem State.completeEntry_eq_answered (s : State) (e : TrackerEntry) (st : Status) (data : List Byte) :
    s.ports.completeEntry e st data = s.answered e st data := by
  unfold PerPort.completeEntry State.answered PerPort.mod PortBlock.complete PortBlock.send
  cases e.orphan <;> by_cases h : (s.ports.get e.port).state = .up <;> simp [h]

/-- The entry found at an index has that index and stands in the tracker. -/
theorem State.entryAt_eq_some {s : State} {i : Fin 24} {e : TrackerEntry} (h : s.entryAt i = some e) :
    e.index = i ∧ e ∈ s.tracker.entries := by
  refine ⟨?_, List.mem_of_find?_eq_some h⟩
  simpa using List.find?_some h

/-- Answering owed ACK writes touches the ports and the tracker alone. -/
theorem answerOwed_frame (st : Status) (is : List (Fin 24)) (s : State) :
    (answerOwed st is s).pending = s.pending ∧ (answerOwed st is s).regionMap = s.regionMap
      ∧ (answerOwed st is s).window = s.window ∧ (answerOwed st is s).pwq = s.pwq
      ∧ (answerOwed st is s).sched = s.sched ∧ (answerOwed st is s).sweep = s.sweep ∧ (answerOwed st is s).ext = s.ext
      ∧ (answerOwed st is s).engine = s.engine ∧ (answerOwed st is s).log = s.log
      ∧ (answerOwed st is s).stamp = s.stamp := by
  induction is generalizing s with
  | nil => exact ⟨rfl, rfl, rfl, rfl, rfl, rfl, rfl, rfl, rfl, rfl⟩
  | cons i is ih =>
    unfold answerOwed
    cases s.entryAt i with
    | some e => exact ih (s.endEntry e st [])
    | none => exact ih s

/-- A completion produced for a port, written out: it goes out while the port is UP (R36). -/
theorem PortBlock.complete_eq (b : PortBlock) (tag : BitVec 8) (st : Status) (v : Option Word64) (data : List Byte) :
    b.complete tag st v data
      = { b with out := b.out ++ if b.state = .up then [completionPacket tag st v data] else [] } := by
  unfold PortBlock.complete PortBlock.send
  split <;> simp

/-- Entries that complete together add their completions to a port, in their order, and leave the rest of it as it is (R109). -/
theorem State.completeAll_port (s : State) (es : List TrackerEntry) (st : Status) (p : Port) :
    (s.ports.completeAll es st).get p
      = { s.ports.get p with out := (s.ports.get p).out ++ s.completionsFor p es st } := by
  induction es generalizing s with
  | nil => simp [PerPort.completeAll, State.completionsFor]
  | cons e es ih =>
    have hc : (s.ports.completeEntry e st []).get p
        = { s.ports.get p with out := (s.ports.get p).out ++ s.completionsFor p [e] st } := by
      by_cases hp : e.port = p
      · subst hp
        cases ho : e.orphan <;> simp [PerPort.completeEntry, State.completionsFor, PortBlock.complete_eq, ho]
      · cases ho : e.orphan <;> simp [PerPort.completeEntry, State.completionsFor, ho, hp, Ne.symm hp]
    have := ih { s with ports := s.ports.completeEntry e st [] }
    simp only [PerPort.completeAll, List.foldl_cons] at this ⊢
    rw [this, hc]
    simp only [State.completionsFor, hc, List.filter_cons, List.filter_nil]
    by_cases h : (s.ports.get p).state = .up <;> cases (e.port == p && !e.orphan) <;> simp [h]

/-- Ending one entry leaves the entries at other indices where they are found. -/
theorem State.entryAt_endEntry {s : State} {e : TrackerEntry} {i : Fin 24} (h : i ≠ e.index) (st : Status) (data : List Byte) :
    (s.endEntry e st data).entryAt i = s.entryAt i := by
  unfold State.entryAt State.endEntry
  rw [List.find?_filter]
  congr 1
  funext f
  by_cases hf : f.index = i <;> simp [hf, h]

/-- Answering owed ACK writes completes them in list order and frees them (R82 step 3, R92). -/
theorem answerOwed_eq (st : Status) (is : List (Fin 24)) (s : State) (h : is.Nodup) :
    answerOwed st is s = { s with
      ports := s.ports.completeAll (is.filterMap s.entryAt) st
      tracker := { s.tracker with entries := s.tracker.entries.filter fun e => e.index ∉ is } } := by
  induction is generalizing s with
  | nil => simp [answerOwed, PerPort.completeAll]
  | cons i is ih =>
    obtain ⟨hi, hn⟩ := List.nodup_cons.mp h
    unfold answerOwed
    cases hf : s.entryAt i with
    | none =>
      have hne : ∀ e ∈ s.tracker.entries, e.index ≠ i := by simpa [State.entryAt] using hf
      have hfil : (s.tracker.entries.filter fun e => e.index ∉ is) = s.tracker.entries.filter fun e => e.index ∉ i :: is :=
        List.filter_congr fun e he => by simp [hne e he]
      simp only [ih s hn, List.filterMap_cons, hf, hfil]
    | some e =>
      obtain rfl := (State.entryAt_eq_some hf).1
      have hmap : is.filterMap (s.endEntry e st []).entryAt = is.filterMap s.entryAt :=
        List.filterMap_congr fun j hj => State.entryAt_endEntry (fun hji => hi (hji ▸ hj)) st []
      simp only [ih _ hn, hmap, List.filterMap_cons, hf]
      simp [State.endEntry, PerPort.completeAll, List.filter_filter, Bool.and_comm]

/-- What the removal of slots does to one tracker entry: a FLUSH loses them and is freed with its last member (R90, R110). -/
def TrackerEntry.afterGone (gone : Fin 16 → Bool) (e : TrackerEntry) : Option TrackerEntry :=
  match e.work with
  | .flush awaited =>
    let left := awaited.filter fun slot => !gone slot
    if left.isEmpty then none else some { e with work := .flush left }
  | _ => some e

/-- What the removal of slots does to the ports through one tracker entry: a live FLUSH that it ends reports and clears the flag
and releases the barrier (R110). -/
def TrackerEntry.endsFlush (gone : Fin 16 → Bool) (e : TrackerEntry) (ports : PerPort PortBlock) : PerPort PortBlock :=
  if (e.afterGone gone).isNone && !e.orphan then ports.mod e.port (·.endFlush e.tag) else ports

/-- The removal of slots: each entry is shrunk or freed by itself, and the FLUSHes that end do so in creation order. -/
theorem shrinkFlushes_eq (gone : Fin 16 → Bool) (es : List TrackerEntry) (ports : PerPort PortBlock) :
    shrinkFlushes gone es ports
      = (es.filterMap fun e => e.afterGone gone, es.foldl (fun ports e => e.endsFlush gone ports) ports) := by
  induction es generalizing ports with
  | nil => rfl
  | cons e es ih =>
    cases hw : e.work <;> simp only [shrinkFlushes, hw, ih, List.filterMap_cons, List.foldl_cons,
      TrackerEntry.endsFlush, TrackerEntry.afterGone, Option.isNone_some, Bool.false_and, Bool.false_eq_true, if_false]
    split <;> cases e.orphan <;> simp_all

/-! ### Queue entries -/

/-- Sealing makes an OPEN entry SEALED and leaves any other as it is (R76). -/
theorem PwqEntry.seal_cases (e : PwqEntry) :
    (∃ timer, e.state = .openFor timer ∧ e.seal = { e with state := .sealed }) ∨ (e.isOpen = false ∧ e.seal = e) := by
  unfold PwqEntry.seal PwqEntry.isOpen
  split
  · next timer h => exact .inl ⟨timer, h, rfl⟩
  · next h => exact .inr ⟨by cases hs : e.state <;> simp_all, rfl⟩

@[simp] theorem PwqEntry.seal_slot (e : PwqEntry) : e.seal.slot = e.slot := by
  obtain ⟨_, -, h⟩ | ⟨-, h⟩ := e.seal_cases <;> rw [h]

@[simp] theorem PwqEntry.seal_line (e : PwqEntry) : e.seal.line = e.line := by
  obtain ⟨_, -, h⟩ | ⟨-, h⟩ := e.seal_cases <;> rw [h]

@[simp] theorem PwqEntry.seal_bytes (e : PwqEntry) : e.seal.bytes = e.bytes := by
  obtain ⟨_, -, h⟩ | ⟨-, h⟩ := e.seal_cases <;> rw [h]

@[simp] theorem PwqEntry.seal_stamp (e : PwqEntry) : e.seal.stamp = e.stamp := by
  obtain ⟨_, -, h⟩ | ⟨-, h⟩ := e.seal_cases <;> rw [h]

@[simp] theorem PwqEntry.seal_owed (e : PwqEntry) : e.seal.owed = e.owed := by
  obtain ⟨_, -, h⟩ | ⟨-, h⟩ := e.seal_cases <;> rw [h]

/-- What a removal changes: the queue, the ports and the tracker (R82). -/
theorem State.removePwq_frame (s : State) (e : PwqEntry) (st : Status) (failed : Option RecordKind) :
    let t := (s.removePwq e st failed).1
    t.pending = s.pending ∧ t.regionMap = s.regionMap ∧ t.window = s.window
      ∧ t.pwq = { s.pwq with entries := s.pwq.entries.filter (·.slot ≠ e.slot) }
      ∧ t.sched = s.sched ∧ t.sweep = s.sweep ∧ t.ext = s.ext ∧ t.engine = s.engine ∧ t.log = s.log ∧ t.stamp = s.stamp := by
  have key : ∀ u : State, u.pending = s.pending → u.regionMap = s.regionMap → u.window = s.window →
      u.pwq = { s.pwq with entries := s.pwq.entries.filter (·.slot ≠ e.slot) } → u.sched = s.sched → u.sweep = s.sweep →
      u.ext = s.ext → u.engine = s.engine → u.log = s.log → u.stamp = s.stamp →
      let t := ((answerOwed st e.owed u).shrinkFlushes (· = e.slot)).releaseHeld e.slot
      t.pending = s.pending ∧ t.regionMap = s.regionMap ∧ t.window = s.window
        ∧ t.pwq = { s.pwq with entries := s.pwq.entries.filter (·.slot ≠ e.slot) }
        ∧ t.sched = s.sched ∧ t.sweep = s.sweep ∧ t.ext = s.ext ∧ t.engine = s.engine ∧ t.log = s.log
        ∧ t.stamp = s.stamp := by
    intro u h1 h2 h3 h4 h5 h6 h7 h8 h9 h10
    obtain ⟨g1, g2, g3, g4, g5, g6, g7, g8, g9, g10⟩ := answerOwed_frame st e.owed u
    exact ⟨g1.trans h1, g2.trans h2, g3.trans h3, g4.trans h4, g5.trans h5, g6.trans h6, g7.trans h7, g8.trans h8,
      g9.trans h9, g10.trans h10⟩
  unfold State.removePwq
  refine key _ ?_ ?_ ?_ ?_ ?_ ?_ ?_ ?_ ?_ ?_ <;> split <;> rfl

end Sys2Proof.Machine
end

