-- ==== Sys2Proof/Tests/Slice0.lean ====
section
/-! SUPPORT. Tests on small states, with results from the spec's tables and worked examples, and for every statement that has
hypotheses a witness that meets them. -/

namespace Sys2Proof.Tests

open Sys2Proof.Machine

/-! ### The states the tests start from -/

/-- An UP port with an empty queue. -/
def upPort (quota : Nat) : PortBlock := { PortBlock.reset ⟨false, false, false, quota⟩ with state := .up, credits := 8 }

/-- Every link is ready, and nothing has been sent. -/
def up : State := { State.reset with
  ports := ⟨{ PortBlock.reset ⟨true, true, true, 4⟩ with state := .up, credits := 8 }, upPort 4, upPort 4, upPort 4⟩
  sched := { State.reset.sched with link := .up }
  ext := { State.reset.ext with link := .up } }

/-- A valid region entry. -/
def region (target : RegionTarget) (base limit : BitVec 28) (offset : Int) (read write : PerPort Bool) (combine : Bool) :
    RegionEntry :=
  { valid := true, base := base, limit := limit, target := target, read := read, write := write, combine := combine
    offset := BitVec.ofInt 29 offset }

/-- The table of chapter 1's first worked example. -/
def table : RegionTable := { RegionTable.reset with
  entries := ((RegionTable.reset.entries.set 2 (region .refuse 0x100 0x10F 0 (.const false) (.const false) false)).set 4
    (region .memory 0 0x3FFFF 0x40000 (.const true) ⟨true, true, false, false⟩ true)).set 6
    (region .extension 0x8000000 0xFFFFFFF (-0x8000000) (.const true) ⟨true, false, false, false⟩ false) }

/-- Every link ready, with that table in generation 4. -/
def mapped : State := { up with regionMap := ⟨table, table, 4⟩ }

/-- A packet of one word. -/
def packet (w : Word64) : Packet := ⟨w, none, []⟩

/-- READ, tag 1, 8 bytes at 0x0001000010 (region 4). -/
def readM : Request := .ofPacket (packet 0x0001000010080101)

/-- READ, tag 6, 4 bytes at 0x9000000200 (region 6). -/
def readX : Request := .ofPacket (packet 0x9000000200040601)

/-- Posted WRITE, 16 bytes at 0x0001000000 (region 4). -/
def writeM : Request := .ofPacket ⟨0x0001000000100002, none, List.replicate 16 0xA0⟩

/-- Posted WRITE, 8 bytes at 0x9000000000 (region 6). -/
def writeX : Request := .ofPacket ⟨0x9000000000080002, none, List.replicate 8 0xA0⟩

/-- ACK write, tag 9, 8 bytes at 0x0001000000 (region 4). -/
def ackM : Request := .ofPacket ⟨0x0001000000080922, none, List.replicate 8 0xA0⟩

/-- ACK write, tag 5, 8 bytes at 0x9000000000 (region 6). -/
def ackX : Request := .ofPacket ⟨0x9000000000080522, none, List.replicate 8 0xA0⟩

/-- FLUSH, tag 2. -/
def flush : Request := .ofPacket (packet 0x203)

/-- A READ of no bytes. -/
def malformedRead : Request := .ofPacket (packet 0x0001000010000101)

/-- A posted WRITE whose bytes are missing. -/
def malformedWrite : Request := .ofPacket (packet 0x0001000000100002)

/-- A control request with tag 3: its kind (4 CTRL_READ, 5 CTRL_WRITE, 6 CTRL_ACTION), code, index and word 1. -/
def control (kind code index : Nat) (value : Option Nat) : Request :=
  .ofPacket ⟨BitVec.ofNat 64 (kind + 0x300 + code * 0x10000 + index * 0x100000000), value.map (BitVec.ofNat 64), []⟩

/-- This request is the one request of a port, with this head record. -/
def withHead (s : State) (p : Port) (r : Request) (g : Progress) (c : Option Classification) : State :=
  s.withPort p { s.ports.get p with ingress := [r], progress := g, cls := c, credits := 7 }

/-- U0 waits for the Engine with this control request. -/
def asked (s : State) (r : Request) : State := withHead s .u0 r .waitEngine none

/-- The state a command leads to. -/
def after (c : Instr) (s : State) : State :=
  match exec c s with
  | .next t => t
  | .fault _ | .refused _ => State.reset

/-- The packets sent to a port by a command, its queue first emptied of older ones. -/
def sent (c : Instr) (s : State) (p : Port) : List Packet := ((after c s).ports.get p).out

/-- What a control request from U0 is answered: the COMPLETION, tag 3, with this status and value, and the CREDIT behind it. -/
def reply (st : Status) (v : Word64) : List Packet := [completionPacket 3 st (some v) [], creditPacket 1]

/-- The queue's entry in a slot: its line, how many bytes it holds from the first on, its contributors and state. -/
def queued (slot : Fin 16) (line : BitVec 30) (bytes : Nat) (contributors : PerPort Bool) (state : PwqState) : PwqEntry :=
  { slot := slot, line := line, bytes := (List.range 64).map fun i => if i < bytes then some 0xB1 else none
    contributors := contributors, owed := [], combine := true, region := .entry 4, generation := 4, state := state
    stamp := slot.val }

/-- A live tracker entry. -/
def tracked (index : Fin 24) (p : Port) (tag : BitVec 8) (work : TrackWork) (state : TrackState) : TrackerEntry :=
  { index := index, port := p, tag := tag, work := work, state := state, orphan := false, stamp := 20 + index.val }

/-- The state with this queue, this tracker and these records of dtags 0 to 2 and xtags 0 to 2. -/
def working (s : State) (queue : List PwqEntry) (tracker : List TrackerEntry) (d : DtagState × DtagState × DtagState)
    (x : XtagState × XtagState × XtagState) : State :=
  { s with
    pwq := { s.pwq with entries := queue }
    tracker := { s.tracker with entries := tracker }
    sched := { s.sched with dtags := ((s.sched.dtags.set 0 d.1).set 1 d.2.1).set 2 d.2.2 }
    ext := { s.ext with xtags := ((s.ext.xtags.set 0 x.1).set 1 x.2.1).set 2 x.2.2 }
    stamp := 100 }

/-- A READ to M of 8 bytes at the start of line 0x1040000. -/
def lineRead : TrackWork := .readM 0x041000000 8 (.entry 4) 4

/-- Work in flight: slot 0 ISSUED under dtag 0, slot 1 SEALED behind it with an owed ACK write; reads READY, HELD on slot 1 and
ISSUED under dtag 1; a FLUSH of U1 that awaits slot 0 and holds its barrier; a READ and an ACK write on X; a sweep under dtag 2. -/
def busy : State :=
  working (mapped.modPort .u1 fun b => { b with barrier := true })
    [queued 0 0x1040040 64 ⟨false, true, false, false⟩ (.issued 0 200),
      { queued 1 0x1040000 4 ⟨true, false, false, false⟩ .sealed with owed := [2] }]
    [tracked 0 .u0 0 (.readM 0x041003000 8 (.entry 4) 4) .ready, tracked 1 .u2 1 lineRead (.held 1),
      tracked 2 .u0 9 (.ackM 1) .waiting, tracked 3 .u1 2 (.flush [0]) .waiting,
      tracked 4 .u3 4 (.readX 0x1000000200 4 (.entry 6) 4) (.issued 0 false 2000),
      tracked 5 .u3 5 (.ackX 0x1000000000 (.entry 6) 4) (.issued 1 false 2000),
      tracked 6 .u2 7 (.readM 0x041004000 8 (.entry 4) 4) (.issued 1 false 200)]
    (.write 0, .read 6 8, .sweep 5 200) (.allocated 4, .allocated 5, .stale)

/-- The work in flight is tied together. -/
theorem busy_workTied : busy.WorkTied := by
  refine ⟨by decide, by decide, by decide, ?_, ?_, ?_, ?_, by decide⟩
  · refine List.forall_mem_cons.mpr ⟨⟨by decide, trivial, ?_⟩, List.forall_mem_cons.mpr ⟨⟨by decide, ?_, ?_⟩,
      List.forall_mem_cons.mpr ⟨⟨by decide, ?_, trivial⟩, List.forall_mem_cons.mpr ⟨⟨by decide, ?_, trivial⟩,
      List.forall_mem_cons.mpr ⟨⟨by decide, ?_, trivial⟩, List.forall_mem_cons.mpr ⟨⟨by decide, ?_, trivial⟩,
      List.forall_mem_cons.mpr ⟨⟨by decide, ?_, trivial⟩, by simp⟩⟩⟩⟩⟩⟩⟩
    · show ∀ q ∈ busy.pwq.entries, ¬TrackerEntry.After _ q; decide
    · show ∃ q ∈ busy.pwq.entries, q.slot = 1 ∧ q.line = lineOf 0x041000000; decide
    · show ∀ q ∈ busy.pwq.entries, q.slot = 1 → ∀ f ∈ busy.pwq.entries, TrackerEntry.After _ f → f.stamp ≤ q.stamp; decide
    · show ∃ q ∈ busy.pwq.entries, q.slot = 1 ∧ (2 : Fin 24) ∈ q.owed; decide
    · show [(0 : Fin 16)] ≠ [] ∧ ∀ slot ∈ [(0 : Fin 16)],
        ∃ q ∈ busy.pwq.entries, q.slot = slot ∧ q.contributors.get .u1 = true
      decide
    · show busy.ext.xtags[(0 : Fin 8)] = .allocated 4 ∧ false = busy.ext.epoch; decide
    · show busy.ext.xtags[(1 : Fin 8)] = .allocated 5 ∧ false = busy.ext.epoch; decide
    · show busy.sched.dtags[(1 : Fin 8)] = .read 6 8 ∧ false = busy.sched.epoch; decide
  · refine List.forall_mem_cons.mpr ⟨⟨?_, by decide, by decide, by decide⟩, List.forall_mem_cons.mpr ⟨⟨trivial, by decide, by decide, by decide⟩, by simp⟩⟩
    show busy.sched.dtags[(0 : Fin 8)] = .write 0; decide
  · intro d
    fin_cases d
    · exact ⟨_, .head _, rfl, rfl⟩
    · exact ⟨_, .tail _ (.tail _ (.tail _ (.tail _ (.tail _ (.tail _ (.head _)))))), rfl, rfl, rfl⟩
    all_goals exact trivial
  · intro t
    fin_cases t
    · exact ⟨_, .tail _ (.tail _ (.tail _ (.tail _ (.head _)))), rfl, rfl, rfl⟩
    · exact ⟨_, .tail _ (.tail _ (.tail _ (.tail _ (.tail _ (.head _))))), rfl, rfl, rfl⟩
    all_goals exact trivial

/-! ### Commands whose packet is not of their row's kind are refused (R35 to R39) -/

theorem test_arrival_of_credit_is_illFormed : (Instr.arrival .u0 (packet 0x10009)).wellFormed = false := by decide

theorem test_inPlace_packet_is_not_outOfPlace :
    (Instr.packetOutOfPlace (.up .u0) (packet 0x203)).wellFormed = false
      ∧ (Instr.packetOutOfPlace .m (packet 4)).wellFormed = false
      ∧ (Instr.packetOutOfPlace .x (packet 9)).wellFormed = false := by decide

theorem test_memResp_of_request_is_illFormed : (Instr.memResp (packet 1)).wellFormed = false := by decide

theorem test_xCompletion_of_credit_is_illFormed : (Instr.xCompletion (packet 9)).wellFormed = false := by decide

theorem test_xCredit_of_completion_is_illFormed : (Instr.xCredit (packet 8)).wellFormed = false := by decide

/-! ### The fields and words of section 3.7, and lookups of chapter 1 and 2 -/

/-- READ, PRIV, tag 7, 8 bytes at 0x0001000080, written out bit by bit. -/
theorem test_read_fields :
    Request.ofPacket (packet 0b0000000000000001000000000000000010000000_0_0001000_00000111_000_1_0001)
      = ⟨.read, true, false, 7, 8, 0x0001000080, 0, 0, none, []⟩ := by decide

/-- CTRL_WRITE of PORT_RIGHTS index 2 with tag 9, its unused bits set: they are ignored (R50). -/
theorem test_ctrlWrite_fields :
    Request.ofPacket ⟨0xFFFF_0002_0008_09_F5, some 1024, []⟩ = ⟨.ctrlWrite, false, false, 9, 0, 0, 8, 2, some 1024, []⟩ := by
  decide

/-- U1's write of the first example of chapter 1: 0x0001000020 lies at 0x041000020, in line 0x1040000. -/
theorem test_lookup_memory :
    mapped.regionMap.lookup .u1 0x0001000020 true false
        = ⟨some (.memory 0x041000020), .entry 4, true, 4, .permitted, false⟩
      ∧ lineOf 0x041000020 = 0x1040000 := by decide

/-- U3's read and U0's read of the same example. -/
theorem test_lookup_extension_and_default :
    mapped.regionMap.lookup .u3 0x9000000200 false false
        = ⟨some (.extension 0x1000000200), .entry 6, false, 4, .permitted, false⟩
      ∧ mapped.regionMap.lookup .u0 0x5000000000 false false = ⟨none, .default, false, 4, .noTarget, false⟩ := by decide

/-- U2's read and write of the same example. -/
theorem test_lookup_refused :
    mapped.regionMap.lookup .u2 0x0000100040 false false = ⟨none, .entry 2, false, 4, .refused, false⟩
      ∧ (mapped.regionMap.lookup .u2 0x0001000000 true false).verdict = .refused := by decide

/-- Event 3 of chapter 2's example. -/
theorem test_window_takes_privileged_write :
    State.classify { up with window := ⟨⟨0x0100000, 16, 0xFFFF00⟩, .closed⟩ } .u0
        (.ofPacket ⟨0x0100000040400012, none, List.replicate 64 1⟩)
      = ⟨some (.memory 0xFFFF00040), .window, false, 0, .permitted, true⟩ := by decide

/-! ### One step of each command -/

theorem test_coldReset_rights :
    (after .coldReset busy).ports.u0.rights.value = 1031 ∧ (after .coldReset busy).ports.u3.rights.value = 1024 := by decide

theorem test_portLinkReady_sends_credit_8 : sent (.portLinkReady .u2) State.reset .u2 = [packet 0x80009] := by decide

/-- Event 1 of chapter 6's second example: the entries stay, none is live, LINK_LOST is logged. -/
theorem test_portLinkLost_orphans :
    (after (.portLinkLost .u1) busy).liveCount .u1 = 0 ∧ (after (.portLinkLost .u1) busy).tracker.entries.length = 7
      ∧ ((after (.portLinkLost .u1) busy).log.records.map fun e => e.record.kind) = [.linkLost] := by decide

/-- R92: the owed ACK write completes TARGET_DOWN, the FLUSH TARGET_ERROR, and the discarded entries are counted. -/
theorem test_mLinkLost_discards :
    sent .mLinkLost busy .u0 = [completionPacket 0 .targetDown none [], completionPacket 9 .targetDown none []]
      ∧ sent .mLinkLost busy .u1 = [completionPacket 2 .targetError none []]
      ∧ ((after .mLinkLost busy).log.records.map fun e => (e.record.kind, e.record.count)) = [(.pwqDiscard, some 2)] := by
  decide

theorem test_mLinkReady_keeps_epoch :
    (after .mLinkReady (after .mLinkLost busy)).sched.link = .up
      ∧ (after .mLinkReady (after .mLinkLost busy)).sched.epoch = true := by decide

/-- Event 9 of chapter 9's example. -/
theorem test_xLinkLost_completes_targetDown :
    sent .xLinkLost busy .u3 = [completionPacket 4 .targetDown none [], completionPacket 5 .targetDown none []]
      ∧ (after .xLinkLost busy).ext.epoch = true := by decide

/-- Event 10 of chapter 9's example: X returns with no credits. -/
theorem test_xLinkReady_has_no_credits :
    (after .xLinkReady (after .xLinkLost busy)).ext.link = .up
      ∧ (after .xLinkReady (after .xLinkLost busy)).ext.credits = 0 := by decide

theorem test_arrival_takes_a_credit :
    ((after (.arrival .u2 (packet 0x203)) up).ports.get .u2).credits = 7
      ∧ ((after (.arrival .u2 (packet 0x203)) up).ports.get .u2).ingress = [flush] := by decide

theorem test_packetOutOfPlace_is_recorded_from_x :
    ((after (.packetOutOfPlace .x (packet 1)) up).log.records.map fun e => (e.record.kind, e.record.target))
      = [(.unknownResponse, some .x)] := by decide

/-- Event 1 of chapter 5's first example: an OPEN entry in slot 0. -/
theorem test_admissionAdvance_appends :
    ((after (.admissionAdvance .u0) (withHead mapped .u0 writeM .examine none)).pwq.entries.map fun q =>
        (q.slot, q.line, q.state)) = [(0, 0x1040000, .openFor 10)] := by decide

/-- Event 5 of the same example: the youngest entry of the line lacks a byte, and is sealed. -/
theorem test_admissionAdvance_holds_a_read :
    let s := { mapped with pwq := { mapped.pwq with
      entries := [queued 0 0x1040000 24 ⟨true, true, false, false⟩ .sealed,
        queued 1 0x1040000 8 ⟨true, false, false, false⟩ (.openFor 10)] } }
    let t := after (.admissionAdvance .u3) (withHead s .u3 readM .examine none)
    t.tracker.entries.map (fun e => (e.work, e.state)) = [(.readM 0x041000010 8 (.entry 4) 4, .held 1)]
      ∧ t.pwq.entries.map (fun q => q.state) = [.sealed, .sealed] := by decide

/-- U0 waits in WAIT_X with a posted write, U1 with a READ: event 1 of chapter 9's example, from pointer U1. -/
def waitingForX : State :=
  let s := { mapped with ext := { mapped.ext with credits := 2, rotation := .u1 } }
  withHead (withHead s .u0 writeX .waitX (some (s.classify .u0 writeX))) .u1 readX .waitX (some (s.classify .u1 readX))

theorem test_creditGrant_serves_the_first_from_the_pointer :
    (after .creditGrant waitingForX).ext.credits = 1 ∧ (after .creditGrant waitingForX).ext.rotation = .u2
      ∧ (after .creditGrant waitingForX).ext.out = [packet 0x1000000200040001] := by decide

/-- The reads and settings of chapter 7's example before arbitration 1. -/
def reading : State :=
  working { mapped with sched := { mapped.sched with favoured := some .u1, holdBudget := 3 } } []
    [tracked 0 .u0 1 (.readM 0x041000000 8 (.entry 4) 4) .ready, tracked 1 .u0 2 (.readM 0x041001000 8 (.entry 4) 4) .ready,
      tracked 2 .u1 1 (.readM 0x041002000 8 (.entry 4) 4) .ready, tracked 3 .u1 2 (.readM 0x041003000 8 (.entry 4) 4) .ready,
      tracked 4 .u1 3 (.readM 0x041004000 8 (.entry 4) 4) .ready, tracked 5 .u2 1 (.readM 0x041005000 8 (.entry 4) 4) .ready]
    (.free, .free, .free) (.free, .free, .free)

theorem test_arbitration_by_rotation :
    (after .arbitration reading).sched.rotation = .port .u1 ∧ (after .arbitration reading).sched.slotCounter = 1
      ∧ (after .arbitration reading).sched.out = [packet 0x0410000000080001] := by decide

/-- Arbitration 6 of the same example: the slot comes, and a hold starts with 3 − 1 grants left. -/
theorem test_arbitration_at_the_slot :
    (after .arbitration { reading with sched := { reading.sched with slotCounter := 3 } }).sched.hold = some 2
      ∧ (after .arbitration { reading with sched := { reading.sched with slotCounter := 3 } }).sched.slotCounter = 0 := by
  decide

/-- Event 8 of chapter 6's first example: a read fails on M. -/
theorem test_memResp_failed_read :
    sent (.memResp (packet 0x3000104)) busy .u2 = [completionPacket 7 .targetError none []]
      ∧ ((after (.memResp (packet 0x3000104)) busy).log.records.map fun e => e.record)
        = [{ kind := .readFailed, port := some .u2, tag := some 7, addr := some (.memory 0x041004000), target := some .m
             region := some (.entry 4, 4) }] := by decide

/-- Event 6 of chapter 5's second example: UNCORRECTABLE ends the entry, and the FLUSH that awaited it reports it. -/
theorem test_memResp_uncorrectable_write :
    sent (.memResp (packet 0x2000004)) busy .u1 = [completionPacket 2 .targetError none []]
      ∧ ((after (.memResp (packet 0x2000004)) busy).ports.get .u1).postedError = false := by decide

/-- Event 5 of chapter 9's example: X refuses an ACK write. -/
theorem test_xCompletion_refused :
    sent (.xCompletion (packet 0x10108)) busy .u3 = [completionPacket 5 .targetError none []]
      ∧ ((after (.xCompletion (packet 0x10108)) busy).log.records.map fun e => e.record.kind) = [.writeFailed] := by decide

theorem test_xCredit_stops_at_8 :
    (after (.xCredit (packet 0x80009)) waitingForX).ext.credits = 8
      ∧ (after (.xCredit (packet 0x50009)) waitingForX).ext.credits = 7 := by decide

theorem test_sealTimerExpiry_seals :
    (after .sealTimerExpiry { up with pwq := { up.pwq with entries := [queued 3 7 4 (.const false) (.openFor 10)] } }).pwq.entries
      = [queued 3 7 4 (.const false) .sealed] := by decide

theorem test_pwqResponseTimerExpiry_records_and_keeps_the_dtag :
    ((after (.pwqResponseTimerExpiry 0) busy).log.records.map fun e => e.record.kind) = [.writeTimeout]
      ∧ (after (.pwqResponseTimerExpiry 0) busy).sched.dtags[0] = .stale := by decide

/-- Event 5 of chapter 6's first example. -/
theorem test_responseTimerExpiry_completes_timeout :
    sent (.responseTimerExpiry 6) busy .u2 = [completionPacket 7 .timeout none []]
      ∧ (after (.responseTimerExpiry 6) busy).sched.dtags[1] = .stale := by decide

theorem test_sweepResponseTimerExpiry_records_the_row :
    ((after (.sweepResponseTimerExpiry 2) busy).log.records.map fun e => (e.record.kind, e.record.addr))
      = [(.sweepTimeout, some (.row 5))] := by decide

/-- Chapter 8's example after event 6: four rows wait, and the counter stands at 2. -/
def sweeping : State := { up with sweep := { timer := some 50, interval := 50, rows := 6, row := 2, queue := [4, 5, 0, 1], corrected := 0 } }

/-- Event 7 of that example: an overrun names row 2, and the counter stays. -/
theorem test_sweepTimerExpiry_overrun :
    ((after .sweepTimerExpiry sweeping).log.records.map fun e => (e.record.kind, e.record.addr))
        = [(.sweepOverrun, some (.row 2))]
      ∧ (after .sweepTimerExpiry sweeping).sweep.row = 2 := by decide

/-- Event 9 of that example: with room, row 2 joins and the counter becomes 3. -/
theorem test_sweepTimerExpiry_queues :
    (after .sweepTimerExpiry { sweeping with sweep := { sweeping.sweep with queue := [5, 0, 1] } }).sweep.queue = [5, 0, 1, 2]
      ∧ (after .sweepTimerExpiry { sweeping with sweep := { sweeping.sweep with queue := [5, 0, 1] } }).sweep.row = 3 := by
  decide

/-- Entry 3 is staged as in chapter 1's second example, with this offset. -/
def staging (offset : Int) : State := { up with regionMap :=
  ⟨{ RegionTable.reset with
      entries := RegionTable.reset.entries.set 3
        (region .memory 0x200000 0x2000FF offset ⟨true, true, false, false⟩ ⟨true, true, false, false⟩ true) },
    RegionTable.reset, 7⟩ }

/-- Events 5 and 9 of that example: the first COMMIT completes INVALID with 515, the second OK with 8. -/
theorem test_commit_rejects_and_publishes :
    sent .commit (asked (staging 0xEF0000) (control 6 1 0 (some 0))) .u0 = reply .invalid 515
      ∧ sent .commit (asked (staging 0xDF0000) (control 6 1 0 (some 0))) .u0 = reply .ok 8 := by decide

theorem test_stageFromActive_copies :
    (after .stageFromActive (asked { mapped with regionMap := ⟨RegionTable.reset, table, 4⟩ } (control 6 2 0 (some 0)))).regionMap
      = ⟨table, table, 4⟩ := by decide

/-- Every link ready, with the window of chapter 2's example in this state. -/
def windowed (w : WindowState) : State := { up with window := ⟨⟨0x100000, 16, 0xFFFF00⟩, w⟩ }

/-- Event 9 of that example. -/
theorem test_windowOpen_while_locked :
    sent .windowOpen (asked (windowed .locked) (control 6 3 0 (some 0))) .u0 = reply .state 2 := by decide

theorem test_windowClose_while_locked :
    sent .windowClose (asked (windowed .locked) (control 6 4 0 (some 0))) .u0 = reply .ok 2 := by decide

/-- Event 6 of that example: OK with 2, and a WINDOW_CHANGE record with count 2. -/
theorem test_windowLock_from_closed :
    sent .windowLock (asked (windowed .closed) (control 6 5 0 (some 0))) .u0 = reply .ok 2
      ∧ ((after .windowLock (asked (windowed .closed) (control 6 5 0 (some 0)))).log.records.map fun e => e.record)
        = [{ kind := .windowChange, port := some .u0, tag := some 3, count := some 2, region := some (.window, 0) }] := by
  decide

/-- Eight records with the sequence numbers 40 to 47, one more lost: chapter 11's example after event 3. -/
def fullLog : State := { up with log := { up.log with
  records := [40, 41, 42, 43, 44, 45, 46, 47].map fun n => ⟨n, { kind := .linkLost }⟩, overflow := 1, sequence := 48 } }

/-- Event 5 of that example. -/
theorem test_logPop_leaves_seven :
    sent .logPop (asked fullLog (control 6 6 0 (some 0))) .u0 = reply .ok 7
      ∧ (after .logPop (asked fullLog (control 6 6 0 (some 0)))).log.overflow = 1 := by decide

/-- Event 7 of that example. -/
theorem test_logClear_removes_eight :
    sent .logClear (asked fullLog (control 6 7 0 (some 0))) .u0 = reply .ok 8
      ∧ (after .logClear (asked fullLog (control 6 7 0 (some 0)))).log.sequence = 48 := by decide

/-- Selection 3 of chapter 10's example: U2's queued write is discarded and counted, its credit returned. -/
theorem test_portDisable_discards :
    let s := asked (withHead up .u2 writeM .waitPwq none) (control 6 8 0 (some 2))
    sent .portDisable s .u0 = reply .ok 2 ∧ sent .portDisable s .u2 = [creditPacket 1]
      ∧ ((after .portDisable s).ports.get .u2).discarded = 1 := by decide

theorem test_portEnable_of_a_down_port :
    sent .portEnable (asked { up with ports := up.ports.set .u2 State.reset.ports.u2 } (control 6 9 0 (some 2))) .u0
      = reply .state 0 := by decide

/-- Event 5 of chapter 10's example, in small: a READ and a posted WRITE of U1 end, and the queue's contributors are flagged. -/
theorem test_warmReset_order :
    let s := asked (withHead { busy with log := { busy.log with noticeEnable := true } } .u1 readM .waitBarrier none)
      (control 6 10 0 (some 0))
    sent .warmReset s .u0 = [completionPacket 0 .aborted none [], completionPacket 9 .aborted none []] ++ reply .ok 0
        ++ [noticePacket 0 .warmResetDiscard (some .u0)]
      ∧ ((after .warmReset s).log.records.map fun e => (e.record.kind, e.record.count)) = [(.warmResetDiscard, some 2)] := by
  decide

/-- Event 2 of chapter 1's second example: valid, MEMORY, combine, 0x0200000 to 0x02000FF, at index 6. -/
theorem test_regionStagedWrite_word0 :
    (after .regionStagedWrite (asked up (control 5 1 6 (some 0x85_02000FF_0200000)))).regionMap.staged.entries[3]
      = { RegionEntry.reset with
          valid := true, base := 0x0200000, limit := 0x02000FF, target := .memory, combine := true } := by decide

theorem test_defaultTargetStagedWrite_of_memory :
    sent .defaultTargetStagedWrite (asked up (control 5 3 0 (some 1))) .u0 = reply .invalid 0
      ∧ sent .defaultTargetStagedWrite (asked up (control 5 3 0 (some 2))) .u0 = reply .ok 0 := by decide

/-- Events 1 and 8 of chapter 2's example. -/
theorem test_windowWrite_by_state :
    (after .windowWrite (asked up (control 5 6 0 (some 0xFFFF00_01_00_100000)))).window.desc = ⟨0x100000, 16, 0xFFFF00⟩
      ∧ sent .windowWrite (asked (windowed .locked) (control 5 6 0 (some 0xFFFF00_02_00_100000))) .u0 = reply .state 0 := by
  decide

/-- Event 4 of chapter 10's example: the last management port cannot give up its right. -/
theorem test_portRightsWrite_keeps_a_manager :
    sent .portRightsWrite (asked up (control 5 8 0 (some 1030))) .u0 = reply .state 0
      ∧ ((after .portRightsWrite (asked up (control 5 8 2 (some 1025)))).ports.get .u2).rights.value = 1025 := by decide

theorem test_favouredWrite_restarts_the_count :
    (after .favouredWrite (asked { up with sched := { up.sched with slotCounter := 2 } } (control 5 11 0 (some 1)))).sched.slotCounter
        = 0
      ∧ (after .favouredWrite (asked { up with sched := { up.sched with slotCounter := 2 } } (control 5 11 0 (some 4)))).sched.slotCounter
        = 2 := by decide

theorem test_combineWindowWrite_zero_seals :
    (after .combineWindowWrite (asked { up with pwq := { up.pwq with entries := [queued 3 7 4 (.const false) (.openFor 10)] } }
      (control 5 14 0 (some 0)))).pwq.entries = [queued 3 7 4 (.const false) .sealed] := by decide

theorem test_sweepIntervalWrite_starts_and_stops :
    (after .sweepIntervalWrite (asked up (control 5 17 0 (some 50)))).sweep.timer = some 50
      ∧ (after .sweepIntervalWrite (asked sweeping (control 5 17 0 (some 0)))).sweep.timer = none := by decide

/-- Event 10 of chapter 8's example: the counter, 3, is not below 2, so it becomes 0. -/
theorem test_sweepRowsWrite_wraps_the_counter :
    let s := { sweeping with sweep := { sweeping.sweep with row := 3 } }
    (after .sweepRowsWrite (asked s (control 5 18 0 (some 2)))).sweep.row = 0
      ∧ (after .sweepRowsWrite (asked s (control 5 18 0 (some 2)))).sweep.queue = [4, 5, 0, 1] := by decide

/-- Event 4 of chapter 11's example: LOG_STATUS is 3,145,992. -/
theorem test_ctrlRead_logStatus :
    sent .ctrlWriteObject (asked fullLog (control 4 25 0 none)) .u0 = reply .ok 3145992 := by decide

/-- R161, R163: an unknown object is INVALID, and BRIDGE_INFO index 3 is 32. -/
theorem test_ctrlRead_unknown_object_and_bridgeInfo :
    sent .ctrlWriteObject (asked up (control 4 29 0 none)) .u0 = reply .invalid 0
      ∧ sent .ctrlWriteObject (asked up (control 4 28 3 none)) .u0 = reply .ok 32 := by decide

/-! ### Witnesses: for each statement with hypotheses, states and operands that meet them, clause by clause -/

theorem witness_StepCarriesOutTheFrontCommand : up.pending = [] := by decide

theorem witness_ReadyLinksCarryPackets :
    (State.reset.ports.get .u3).state = .down ∧ (up.ports.get .u3).state ≠ .down := by decide

theorem witness_LostPortLinkEmptiesThePort :
    (busy.ports.get .u1).state ≠ .down ∧ (State.reset.ports.get .u0).state = .down := by decide

/-- Work in flight with an ACK write of U2 and a posted write of U3 in WAIT_PWQ. -/
def busyWaiting : State :=
  withHead (withHead busy .u2 ackM .waitPwq (some (busy.classify .u0 ackM))) .u3 writeM .waitPwq
    (some (busy.classify .u0 writeM))

theorem busyWaiting_workTied : busyWaiting.WorkTied :=
  ⟨busy_workTied.1, busy_workTied.2.1, busy_workTied.2.2.1, busy_workTied.2.2.2.1, busy_workTied.2.2.2.2.1,
    busy_workTied.2.2.2.2.2.1, busy_workTied.2.2.2.2.2.2.1, by decide⟩

theorem witness_LostMemoryLinkEndsMemoryWork :
    (busyWaiting.sched.link = .up ∧ busyWaiting.CreditsAddUp)
      ∧ (∃ e ∈ busyWaiting.tracker.entries, e.isReadM = true ∧ e.orphan = false ∧ (busyWaiting.ports.get e.port).state = .up)
      ∧ (∃ e ∈ busyWaiting.tracker.entries, e.work = .ackM 1 ∧ e.orphan = false ∧ (busyWaiting.ports.get e.port).state = .up)
      ∧ busyWaiting.HeadWaits .waitPwq .u2 ∧ busyWaiting.HeadDropped .waitPwq .u3 ∧ ¬busyWaiting.HeadWaits .waitPwq .u0
      ∧ (ackM.posted = false ∧ writeM.posted = true)
      ∧ (∃ q ∈ busyWaiting.pwq.entries, q.contributors.get .u0 = true)
      ∧ (∀ e ∈ busyWaiting.tracker.entries, e.port = .u0 → e.isLiveFlush = false)
      ∧ (∃ e ∈ busyWaiting.tracker.entries, e.port = .u1 ∧ e.isLiveFlush = true ∧ (busyWaiting.ports.get .u1).state = .up)
      ∧ State.reset.sched.link = .down := by
  and_intros <;> decide

/-- Work in flight with a posted write of U0 in WAIT_X. -/
def busyForX : State := withHead busy .u0 writeX .waitX (some (busy.classify .u0 writeX))

theorem witness_LostExtensionLinkEndsExtensionWork :
    (busyForX.ext.link = .up ∧ busyForX.CreditsAddUp)
      ∧ (∃ e ∈ busyForX.tracker.entries, e.isOnX = true ∧ e.orphan = false ∧ (busyForX.ports.get e.port).state = .up)
      ∧ busyForX.HeadDropped .waitX .u0 ∧ ¬busyForX.HeadWaits .waitX .u1
      ∧ (waitingForX.ext.link = .up ∧ waitingForX.CreditsAddUp)
      ∧ waitingForX.HeadWaits .waitX .u1 ∧ ¬waitingForX.HeadDropped .waitX .u1
      ∧ State.reset.ext.link = .down := by
  and_intros <;> decide

/-- U1's queue is full, U2 is DISABLED and U3 is DOWN. -/
def mixed : State := { up with
  ports := ⟨up.ports.u0, { upPort 4 with ingress := List.replicate 8 flush, credits := 0 }, { upPort 4 with state := .disabled },
    State.reset.ports.u3⟩ }

theorem witness_ArrivalsJoinTheQueueOrAreDropped :
    (∀ p, (Instr.arrival p (packet 0x203)).wellFormed = true) ∧ mixed.CreditsAddUp
      ∧ ((mixed.ports.get .u0).state = .up ∧ (mixed.ports.get .u0).ingress.length < 8)
      ∧ ((mixed.ports.get .u1).state = .up ∧ (mixed.ports.get .u1).ingress.length = 8)
      ∧ (mixed.ports.get .u2).state = .disabled := by
  exact ⟨fun p => by cases p <;> decide, by decide⟩

theorem witness_PacketsOutOfPlaceAreDiscarded :
    ((Instr.packetOutOfPlace (.up .u0) (packet 8)).wellFormed = true ∧ (Instr.packetOutOfPlace (.up .u0) (packet 9)).wellFormed = true)
      ∧ (Instr.packetOutOfPlace .m (packet 3)).wellFormed = true ∧ (Instr.packetOutOfPlace .x (packet 10)).wellFormed = true
      ∧ up.NothingOwed ∧ up.sched.link = .up ∧ up.ext.link = .up
      ∧ State.reset.NothingOwed ∧ State.reset.sched.link = .down ∧ State.reset.ext.link = .down
      ∧ (Instr.arrival .u3 (packet 0x203)).wellFormed = true ∧ mixed.NothingOwed ∧ (mixed.ports.get .u3).state = .down := by decide

theorem witness_PacketFieldsStandWhereTheLayoutPutsThem :
    ((readX.length < 128 ∧ readX.kind = .read ∧ readX.ack = false) ∧ (ackX.length < 128 ∧ ackX.kind = .write))
      ∧ (queued 0 7 64 (.const false) .sealed).bytes.length = 64
      ∧ 7 ≤ (Word64.field (packet 0x107).word0 0 4).toNat ∧ Word64.field (packet 0).word0 0 4 = 0
      ∧ (List.replicate 64 (0xA0 : Byte)).length < 128 := by decide

/-- U0's head is this request at this progress, and its barrier is held. -/
def behindBarrier (s : State) (r : Request) (g : Progress) : State :=
  (withHead s .u0 r g none).modPort .u0 fun b => { b with barrier := true }

theorem witness_MalformedHeadsAreAnsweredOrDropped :
    malformedRead.malformed = true ∧ malformedWrite.malformed = true
      ∧ (malformedRead.posted = false ∧ (withHead up .u0 malformedRead .examine none).HeadAt .u0 malformedRead .examine)
      ∧ (malformedWrite.posted = true ∧ (withHead up .u0 malformedWrite .examine none).HeadAt .u0 malformedWrite .examine
        ∧ ((withHead up .u0 malformedWrite .examine none).ports.get .u0).barrier = false)
      ∧ ((withHead up .u0 malformedWrite .waitBarrier none).HeadAt .u0 malformedWrite .waitBarrier
        ∧ ((withHead up .u0 malformedWrite .waitBarrier none).ports.get .u0).barrier = false)
      ∧ ((behindBarrier up malformedWrite .examine).HeadAt .u0 malformedWrite .examine
        ∧ ((behindBarrier up malformedWrite .examine).ports.get .u0).barrier = true) := by decide

/-- U0 has four live entries, its quota, with tags 0 to 3. -/
def crowded : State :=
  working mapped [] ([0, 1, 2, 3].map fun i => tracked i .u0 (BitVec.ofNat 8 i.val) lineRead .ready) (.free, .free, .free)
    (.free, .free, .free)

theorem witness_EarlyStepsDecideInOrder :
    (control 4 25 0 none).malformed = false ∧ readM.malformed = false ∧ flush.malformed = false ∧ ackM.malformed = false
      ∧ ((control 4 25 0 none).kind.isControl = true
        ∧ (withHead up .u0 (control 4 25 0 none) .examine none).HeadAt .u0 (control 4 25 0 none) .examine)
      ∧ (readM.kind.isControl = false ∧ (behindBarrier up readM .examine).HeadAt .u0 readM .examine
        ∧ ((behindBarrier up readM .examine).ports.get .u0).barrier = true)
      ∧ (readM.needsRoom = true ∧ (withHead crowded .u0 readM .examine none).HeadAt .u0 readM .examine
        ∧ ((withHead crowded .u0 readM .examine none).ports.get .u0).barrier = false
        ∧ (withHead crowded .u0 readM .examine none).TagTaken .u0 readM.tag)
      ∧ ((withHead crowded .u0 flush .waitBarrier none).HeadAt .u0 flush .waitBarrier
        ∧ (withHead crowded .u0 flush .waitBarrier none).TagTaken .u0 flush.tag)
      ∧ (ackM.needsRoom = true ∧ (withHead crowded .u0 ackM .examine none).HeadAt .u0 ackM .examine
        ∧ ¬(withHead crowded .u0 ackM .examine none).TagTaken .u0 ackM.tag
        ∧ ¬(withHead crowded .u0 ackM .examine none).RoomFor .u0) := by decide

/-- The head is this request, not yet examined. -/
abbrev atHead (s : State) (p : Port) (r : Request) : State := withHead s p r .examine none

/-- Chapter 1's table with both target links lost. -/
def mappedDown : State :=
  { mapped with sched := { mapped.sched with link := .down }, ext := { mapped.ext with link := .down } }

theorem witness_AccessVerdictsAndTargetLinksDecide :
    ((atHead mapped .u2 writeM).PassesRoom .u2 writeM ∧ ((atHead mapped .u2 writeM).classify .u2 writeM).verdict = .refused)
      ∧ ((atHead up .u0 readM).PassesRoom .u0 readM ∧ ((atHead up .u0 readM).classify .u0 readM).verdict = .noTarget)
      ∧ ((atHead mappedDown .u0 writeX).PassesRoom .u0 writeX
        ∧ ((atHead mappedDown .u0 writeX).classify .u0 writeX).verdict = .permitted
        ∧ ((atHead mappedDown .u0 writeX).classify .u0 writeX).dest = some (.extension 0x1000000000)
        ∧ mappedDown.linkOf (.extension 0x1000000000) = .down)
      ∧ ((atHead mappedDown .u1 readM).PassesRoom .u1 readM
        ∧ ((atHead mappedDown .u1 readM).classify .u1 readM).dest = some (.memory 0x041000010)
        ∧ mappedDown.linkOf (.memory 0x041000010) = .down)
      ∧ ((atHead mapped .u3 readX).PassesRoom .u3 readX ∧ ((atHead mapped .u3 readX).classify .u3 readX).verdict = .permitted
        ∧ ((atHead mapped .u3 readX).classify .u3 readX).dest = some (.extension 0x1000000200)
        ∧ (atHead mapped .u3 readX).ext.link = .up)
      ∧ readM.kind.isAccess = true ∧ writeM.kind.isAccess = true ∧ readX.kind.isAccess = true ∧ writeX.kind.isAccess = true := by
  and_intros <;> decide

/-- What chapter 1's table gives the reads and writes of line 0x1040000. -/
def toLine (offset : BitVec 36) : Classification := ⟨some (.memory (0x041000000 + offset)), .entry 4, true, 4, .permitted, false⟩

/-- The queue holds these entries. -/
def queueing (s : State) (entries : List PwqEntry) : State :=
  { s with pwq := { s.pwq with entries := entries }, stamp := 20 }

theorem witness_ReadsAreHitHeldOrReady :
    (readM.kind = .read ∧ readM.length = 8)
      ∧ ((atHead mapped .u3 readM).ReachesMemory .u3 readM (toLine 0x10) 0x041000010 ∧ (atHead mapped .u3 readM).QueueOrdered
        ∧ ∀ q ∈ (atHead mapped .u3 readM).pwq.entries, q.line ≠ lineOf 0x041000010)
      ∧ (let s := atHead (queueing mapped [queued 0 0x1040000 8 (.const false) .sealed, queued 1 0x1040000 24 (.const false) (.openFor 10)])
            .u3 readM
        s.ReachesMemory .u3 readM (toLine 0x10) 0x041000010 ∧ s.QueueOrdered
          ∧ s.pwq.entries = [queued 0 0x1040000 8 (.const false) .sealed] ++ queued 1 0x1040000 24 (.const false) (.openFor 10) :: []
          ∧ (queued 1 0x1040000 24 (.const false) (.openFor 10)).line = lineOf 0x041000010
          ∧ ∀ i, i < 8 → (queued 1 0x1040000 24 (.const false) (.openFor 10)).bytes[lineOffset 0x041000010 + i]?
              = some ((List.replicate 8 (0xB1 : Byte))[i]?))
      ∧ (let s := atHead (queueing mapped [queued 0 0x1040000 23 (.const false) .sealed]) .u3 readM
        s.ReachesMemory .u3 readM (toLine 0x10) 0x041000010 ∧ s.QueueOrdered
          ∧ 7 < 8 ∧ (queued 0 0x1040000 23 (.const false) .sealed).bytes[lineOffset 0x041000010 + 7]? = some none) := by
  and_intros <;> decide

theorem witness_WritesMergeAppendOrWait :
    (writeM.kind = .write ∧ ackM.kind = .write)
      ∧ (let q := queued 0 0x1040000 8 (.const false) (.openFor 10)
        (atHead (queueing mapped [q]) .u0 writeM).ReachesMemory .u0 writeM (toLine 0) 0x041000000
          ∧ q.isOpen = true ∧ q.line = lineOf 0x041000000 ∧ q.combine = true ∧ (toLine 0).combine = true)
      ∧ ((atHead mapped .u0 ackM).ReachesMemory .u0 ackM (toLine 0) 0x041000000
        ∧ (∀ q ∈ (atHead mapped .u0 ackM).pwq.entries.getLast?, q.isOpen = false)
        ∧ (atHead mapped .u0 ackM).pwq.entries.length < 16)
      ∧ (let s := withHead (queueing mapped ((List.range 15).map fun i => queued (Fin.ofNat 16 i) 0 8 (.const false) .sealed)) .u0 ackM
            .waitPwq (some (toLine 0))
        s.ReachesMemory .u0 ackM (toLine 0) 0x041000000 ∧ s.pwq.entries.length < 16
          ∧ ∀ q ∈ s.pwq.entries.getLast?, q.isOpen = false)
      ∧ (let s := atHead (queueing mapped ((List.range 16).map fun i => queued (Fin.ofNat 16 i) 0 8 (.const false) .sealed)) .u0 writeM
        s.ReachesMemory .u0 writeM (toLine 0) 0x041000000 ∧ 16 ≤ s.pwq.entries.length
          ∧ ∀ q ∈ s.pwq.entries.getLast?, q.isOpen = false) := by
  and_intros <;> decide

theorem witness_MergedBytesReplaceAndOthersStay :
    (queued 0 7 8 (.const false) .sealed).bytes.length = 64 ∧ 63 + [(1 : Byte)].length ≤ 64 := by decide

theorem witness_FlushesCompleteOrHoldTheBarrier :
    flush.kind = .flush
      ∧ ((atHead mapped .u2 flush).PassesRoom .u2 flush
        ∧ ((atHead mapped .u2 flush).pwq.entries.filter fun q => q.contributors.get .u2) = [])
      ∧ (let s := atHead (queueing mapped [queued 5 7 8 ⟨false, false, true, false⟩ (.openFor 10)]) .u2 flush
        s.PassesRoom .u2 flush
          ∧ ((s.pwq.entries.filter fun q => q.contributors.get .u2).map fun q => q.slot) ≠ []) := by decide

theorem witness_WaitingHeadsStayUntilTheirWaitEnds :
    (State.reset.NothingOwed ∧ (State.reset.ports.get .u0).state ≠ .up)
      ∧ (up.NothingOwed ∧ (up.ports.get .u0).ingress = [])
      ∧ (withHead up .u0 flush .waitEngine none).HeadAt .u0 flush .waitEngine
      ∧ (withHead up .u0 flush .waitX none).HeadAt .u0 flush .waitX
      ∧ ((behindBarrier up flush .waitBarrier).HeadAt .u0 flush .waitBarrier
        ∧ ((behindBarrier up flush .waitBarrier).ports.get .u0).barrier = true)
      ∧ ((withHead crowded .u0 flush .waitRoom none).HeadAt .u0 flush .waitRoom
        ∧ ¬(withHead crowded .u0 flush .waitRoom none).RoomFor .u0)
      ∧ (let s := withHead (queueing mapped ((List.range 16).map fun i => queued (Fin.ofNat 16 i) 0 8 (.const false) .sealed)) .u0
            writeM .waitPwq (some (toLine 0))
        s.HeadAt .u0 writeM .waitPwq ∧ 16 ≤ s.pwq.entries.length)
      ∧ ((withHead crowded .u0 ackM .waitPwq (some (toLine 0))).HeadAt .u0 ackM .waitPwq ∧ ackM.posted = false
        ∧ ¬(withHead crowded .u0 ackM .waitPwq (some (toLine 0))).RoomFor .u0)
      ∧ ((withHead up .u0 flush .waitBarrier none).HeadAt .u0 flush .waitBarrier
        ∧ ((withHead up .u0 flush .waitBarrier none).ports.get .u0).barrier = false) := by
  and_intros <;> decide

/-- READ, PRIV, at the last page of chapter 2's window (0x010000F) and at the first page above it. -/
def readWindow (page : BitVec 28) : Request := .ofPacket (packet (Word64.place 36 page ||| 0x040011))

theorem witness_TheWindowTakesWhatItsTableSays :
    (pageOf (readWindow 0x10000F).addr).toNat = 0x10000F ∧ (pageOf (readWindow 0x100010).addr).toNat = 0x100010
      ∧ (windowed .closed).window.desc.base.toNat ≤ 0x10000F
      ∧ 0x10000F < (windowed .closed).window.desc.base.toNat + (windowed .closed).window.desc.size
      ∧ ((readWindow 0x10000F).priv && ((windowed .closed).ports.get .u0).rights.privilege) = true
      ∧ (windowed .closed).window.desc.memBase.toNat + (windowed .closed).window.desc.size ≤ 2 ^ 24
      ∧ ¬0x100010 < (windowed .closed).window.desc.base.toNat + (windowed .closed).window.desc.size
      ∧ ((readWindow 0x10000F).priv && ((windowed .locked).ports.get .u1).rights.privilege) = false
      ∧ (windowed .locked).window.state ≠ .opened := by decide

theorem witness_TheLowestMatchingEntryDecides :
    table.commitFailure = none
      ∧ ((table.entries[2]).valid = true ∧ (table.entries[2]).base.toNat ≤ (pageOf 0x000010F000).toNat
        ∧ (pageOf 0x000010F000).toNat ≤ (table.entries[2]).limit.toNat ∧ (table.entries[2]).target = .refuse
        ∧ ∀ j : Fin 32, j < 2 → (table.entries[j]).valid = false)
      ∧ ((table.entries[4]).valid = true ∧ (table.entries[4]).base.toNat ≤ (pageOf 0x003FFFF000).toNat
        ∧ (pageOf 0x003FFFF000).toNat ≤ (table.entries[4]).limit.toNat ∧ (table.entries[4]).target = .memory
        ∧ ∀ j : Fin 32, j < 4 → ¬((table.entries[j]).valid = true ∧ (pageOf 0x003FFFF000).toNat ≤ (table.entries[j]).limit.toNat))
      ∧ ((table.entries[6]).valid = true ∧ (table.entries[6]).base.toNat ≤ (pageOf 0x8000000000).toNat
        ∧ (pageOf 0x8000000000).toNat ≤ (table.entries[6]).limit.toNat ∧ (table.entries[6]).target = .extension
        ∧ ∀ j : Fin 32, j < 6 → ¬((table.entries[j]).valid = true ∧ (pageOf 0x8000000000).toNat ≤ (table.entries[j]).limit.toNat))
      ∧ ∀ i : Fin 32, ¬((table.entries[i]).valid = true ∧ (table.entries[i]).base.toNat ≤ (pageOf 0x5000000000).toNat
        ∧ (pageOf 0x5000000000).toNat ≤ (table.entries[i]).limit.toNat) := by decide

/-- U1 waits for a credit with a READ, xtags 0 to 6 taken. -/
def lastXtag : State :=
  let s := { mapped with ext := { mapped.ext with
    credits := 1, xtags := (Vector.replicate 8 XtagState.stale).set 7 .free } }
  withHead s .u1 readX .waitX (some (s.classify .u1 readX))

/-- No head of this port waits for a credit when its port has no request. -/
theorem not_waitsForCredit {s : State} {q : Port} (h : (s.ports.get q).ingress = []) (r : Request) (c : Classification)
    (a : BitVec 40) : ¬s.WaitsForCredit q r c a := fun hw => by
  have := hw.1.2.2.1
  rw [h] at this
  cases this

theorem witness_CreditGrantsForwardOneHead :
    ((waitingForX.ext.link = .up ∧ 0 < waitingForX.ext.credits)
        ∧ waitingForX.WaitsForCredit .u0 writeX ⟨some (.extension 0x1000000000), .entry 6, false, 4, .permitted, false⟩ 0x1000000000
        ∧ writeX.posted = true)
      ∧ ((lastXtag.ext.link = .up ∧ 0 < lastXtag.ext.credits)
        ∧ lastXtag.WaitsForCredit .u1 readX ⟨some (.extension 0x1000000200), .entry 6, false, 4, .permitted, false⟩ 0x1000000200
        ∧ (∀ q ∈ lastXtag.ext.rotation.fromHere.takeWhile fun q => q ≠ .u1, ∀ r c a, ¬lastXtag.WaitsForCredit q r c a)
        ∧ readX.posted = false ∧ lastXtag.ext.xtags[(7 : Fin 8)] = .free
        ∧ ∀ y : Fin 8, y < 7 → lastXtag.ext.xtags[y] ≠ .free)
      ∧ (State.reset.NothingOwed ∧ State.reset.ext.link = .down) ∧ (up.NothingOwed ∧ up.ext.credits = 0)
      ∧ ({ up with ext := { up.ext with credits := 8 } } : State).NothingOwed
      ∧ ∀ q r c a, ¬({ up with ext := { up.ext with credits := 8 } } : State).WaitsForCredit q r c a := by
  refine ⟨⟨by decide, by decide, by decide⟩, ⟨by decide, by decide, ?_, by decide, by decide, by decide⟩, by decide, by decide,
    by decide, ?_⟩
  · intro q hq
    exact not_waitsForCredit (by revert q; decide)
  · intro q
    exact not_waitsForCredit (by cases q <;> decide)

/-- The second clause of the grant's premise at a posted write: nothing waits between the pointer and U0. -/
theorem witness_CreditGrantsForwardOneHead_posted :
    let s := { waitingForX with ext := { waitingForX.ext with rotation := .u2 } }
    s.WaitsForCredit .u0 writeX ⟨some (.extension 0x1000000000), .entry 6, false, 4, .permitted, false⟩ 0x1000000000
      ∧ ∀ q ∈ s.ext.rotation.fromHere.takeWhile fun q => q ≠ .u0, ∀ r c a, ¬s.WaitsForCredit q r c a := by
  refine ⟨by decide, fun q hq => not_waitsForCredit ?_⟩
  revert q
  decide

theorem witness_ExtensionCreditsAddUpToEight :
    (∀ n : BitVec 4, (Instr.xCredit (packet (Word64.place 0 9#4 ||| Word64.place 16 n))).wellFormed = true)
      ∧ (∀ n : BitVec 4, Word64.field (packet (Word64.place 0 9#4 ||| Word64.place 16 n)).word0 16 4 = n)
      ∧ up.ext.link = .up ∧ State.reset.ext.link = .down := by decide

/-- Completions from X: tag field, status, data length. -/
def xAnswer (tag status length : Nat) : Packet :=
  ⟨BitVec.ofNat 64 (8 + tag * 0x100 + status * 0x10000 + length * 0x1000000), none, List.replicate length 9⟩

theorem witness_ExtensionCompletionsEndTheirEntryOrAreDiscarded :
    (busy.ext.link = .up ∧ State.reset.ext.link = .down)
      ∧ (∀ pkt ∈ [xAnswer 16 0 0, xAnswer 8 0 0, xAnswer 7 0 0, xAnswer 2 0 0, xAnswer 0 0 4, xAnswer 0 1 0, xAnswer 0 0 3,
          xAnswer 1 0 0, xAnswer 1 9 0, xAnswer 1 9 1], (Instr.xCompletion pkt).wellFormed = true)
      ∧ 15 < (Word64.field (xAnswer 16 0 0).word0 8 8).toNat
      ∧ ((Word64.field (xAnswer 8 0 0).word0 8 8).toNat = 0 + 8 * true.toNat ∧ true ≠ busy.ext.epoch)
      ∧ ((Word64.field (xAnswer 7 0 0).word0 8 8).toNat = 7 + 8 * false.toNat ∧ busy.ext.xtags[(7 : Fin 8)] = .free)
      ∧ ((Word64.field (xAnswer 2 0 0).word0 8 8).toNat = 2 + 8 * false.toNat ∧ busy.ext.xtags[(2 : Fin 8)] = .stale)
      ∧ (busy.ext.xtags[(0 : Fin 8)] = .allocated 4
        ∧ (busy.entryAt 4).map (fun e => e.work) = some (.readX 0x1000000200 4 (.entry 6) 4))
      ∧ ((Word64.field (xAnswer 0 0 4).word0 24 7).toNat = 4 ∧ (xAnswer 0 0 4).data.length = 4)
      ∧ ((Word64.field (xAnswer 0 1 0).word0 16 4).toNat ≠ 0 ∧ (xAnswer 0 1 0).data.length = 0)
      ∧ (Word64.field (xAnswer 0 0 3).word0 24 7).toNat ≠ 4
      ∧ (busy.ext.xtags[(1 : Fin 8)] = .allocated 5
        ∧ (busy.entryAt 5).map (fun e => e.work) = some (.ackX 0x1000000000 (.entry 6) 4))
      ∧ ((Word64.field (xAnswer 1 0 0).word0 16 4).toNat = 0 ∧ (xAnswer 1 0 0).data.length = 0)
      ∧ ((Word64.field (xAnswer 1 9 0).word0 16 4).toNat ≠ 0 ∧ (xAnswer 1 9 0).data.length = 0)
      ∧ (Word64.field (xAnswer 1 9 1).word0 24 7).toNat ≠ 0 := by
  and_intros <;> decide

/-- One SEALED entry waits to be issued and nothing else does. -/
def draining : State := queueing up [queued 0 7 8 (.const true) .sealed]

theorem witness_ArbitrationIssuesOneCommand :
    (reading.sched.link = .up ∧ reading.sched.dtags[(0 : Fin 8)] = .free ∧ (∀ y : Fin 8, y < 0 → reading.sched.dtags[y] ≠ .free)
        ∧ reading.decision = some (.rotation (.port .u0), .port (tracked 0 .u0 1 (.readM 0x041000000 8 (.entry 4) 4) .ready)))
      ∧ (draining.sched.link = .up ∧ draining.sched.dtags[(0 : Fin 8)] = .free
        ∧ draining.decision = some (.rotation .pwq, .pwq (queued 0 7 8 (.const true) .sealed)))
      ∧ (sweeping.sched.link = .up ∧ sweeping.sched.dtags[(0 : Fin 8)] = .free
        ∧ sweeping.decision = some (.fullSweep, .sweep 4))
      ∧ (let s := { sweeping with sched := { sweeping.sched with dtags := (Vector.replicate 8 DtagState.stale).set 7 .free } }
        s.sched.dtags[(7 : Fin 8)] = .free ∧ (∀ y : Fin 8, y < 7 → s.sched.dtags[y] ≠ .free)
          ∧ s.decision = some (.fullSweep, .sweep 4))
      ∧ State.reset.sched.link = .down ∧ up.decision = none
      ∧ ∀ d : Fin 8, ({ up.sched with dtags := Vector.replicate 8 .stale } : Scheduler).dtags[d] ≠ .free := by
  and_intros <;> decide

theorem witness_TheFirstStepThatHoldsDecides :
    (sweeping.sweep.queue = 4 :: [5, 0, 1] ∧ 4 ≤ sweeping.sweep.queue.length)
      ∧ reading.sweep.queue.length < 4
      ∧ (reading.sched.favoured.bind reading.portCandidate
          = some (tracked 2 .u1 1 (.readM 0x041002000 8 (.entry 4) 4) .ready))
      ∧ ({ reading.sched with hold := some 1 } : Scheduler).hold.isSome = true
      ∧ (reading.sched.hold = none ∧ ({ reading.sched with slotCounter := 3 } : Scheduler).slotCounter = 3)
      ∧ ¬(reading.sched.hold.isSome = true ∨ reading.sched.slotCounter = 3)
      ∧ (let s := { draining with pwq := { draining.pwq with watermark := 1 } }
        s.pwqCandidate = some (queued 0 7 8 (.const true) .sealed) ∧ s.pwq.watermark ≤ s.pwq.entries.length
          ∧ s.sched.favoured.bind s.portCandidate = none)
      ∧ (reading.pwqCandidate = none ∧ Party.port .u0 ∈ reading.sched.rotation.fromHere
        ∧ (reading.candidate (.port .u0)).isSome = true)
      ∧ (draining.pwq.entries.length < draining.pwq.watermark ∧ Party.pwq ∈ draining.sched.rotation.fromHere
        ∧ (draining.candidate .pwq).isSome = true
        ∧ ∀ m ∈ draining.sched.rotation.fromHere.takeWhile fun m => m ≠ .pwq, draining.candidate m = none)
      ∧ (∀ m ∈ up.sched.rotation.fromHere, up.candidate m = none)
      ∧ ({ reading.sched with hold := some 14 } : Scheduler).hold = some 14 := by
  and_intros <;> decide

/-- The states of a run of arbitrations. -/
def granting : Nat → State
  | 0 => reading
  | n + 1 => (granting n).arbitrate

theorem witness_TheFavouredPortWinsOneOfFourGrants :
    (granting 0).sched.slotCounter ≤ 3
      ∧ (∀ i, i < 4 → exec .arbitration (granting i) = .next (granting (i + 1)))
      ∧ (∀ i, i < 4 → (granting i).sched.favoured = some .u1 ∧ ((granting i).portCandidate .u1).isSome = true)
      ∧ 4 ≤ ((List.range 4).filter fun i => (granting i).grantsNonSweep .arbitration).length := by
  refine ⟨by decide, fun i _ => rfl, by decide, by decide⟩

/-- Responses from M: dtag, epoch, result, data length. -/
def mAnswer (d epoch result length : Nat) : Packet :=
  ⟨BitVec.ofNat 64 (4 + d * 0x100 + epoch * 0x800 + length * 0x10000 + result * 0x1000000), none, List.replicate length 7⟩

theorem witness_MemoryResponsesEndReads :
    (∀ pkt ∈ [mAnswer 1 0 0 8, mAnswer 1 0 1 8, mAnswer 1 0 2 0, mAnswer 1 0 3 0],
        (Instr.memResp pkt).wellFormed = true ∧ (MemResp.ofPacket pkt).epoch = busy.sched.epoch
          ∧ busy.sched.dtags[(MemResp.ofPacket pkt).dtag] = .read 6 8)
      ∧ busy.sched.link = .up ∧ (busy.entryAt 6).map (fun e => e.work) = some (.readM 0x041004000 8 (.entry 4) 4)
      ∧ ((MemResp.ofPacket (mAnswer 1 0 0 8)).result = .good ∧ (MemResp.ofPacket (mAnswer 1 0 0 8)).length = 8)
      ∧ ((MemResp.ofPacket (mAnswer 1 0 1 8)).result = .corrected ∧ (mAnswer 1 0 1 8).data.length = 8)
      ∧ ((MemResp.ofPacket (mAnswer 1 0 2 0)).result = .uncorrectable ∧ (MemResp.ofPacket (mAnswer 1 0 2 0)).length = 0)
      ∧ (MemResp.ofPacket (mAnswer 1 0 3 0)).result = .failed := by
  and_intros <;> decide

theorem witness_MemoryResponsesEndSweeps :
    (∀ pkt ∈ [mAnswer 2 0 0 0, mAnswer 2 0 1 0, mAnswer 2 0 2 0, mAnswer 2 0 3 0],
        (Instr.memResp pkt).wellFormed = true ∧ (MemResp.ofPacket pkt).epoch = busy.sched.epoch
          ∧ busy.sched.dtags[(MemResp.ofPacket pkt).dtag] = .sweep 5 200
          ∧ (MemResp.ofPacket pkt).length = 0 ∧ pkt.data.length = 0)
      ∧ busy.sched.link = .up
      ∧ ((MemResp.ofPacket (mAnswer 2 0 0 0)).result = .good ∧ (MemResp.ofPacket (mAnswer 2 0 1 0)).result = .corrected
        ∧ (MemResp.ofPacket (mAnswer 2 0 2 0)).result = .uncorrectable ∧ (MemResp.ofPacket (mAnswer 2 0 3 0)).result = .failed) := by
  and_intros <;> decide

theorem witness_OtherMemoryResponsesAreDiscarded :
    (∀ pkt ∈ [mAnswer 0 0 0 0, mAnswer 0 1 0 0, mAnswer 7 0 0 0, mAnswer 1 0 0 9, mAnswer 0 0 0 1, mAnswer 2 0 3 1],
        (Instr.memResp pkt).wellFormed = true)
      ∧ State.reset.sched.link = .down ∧ busy.sched.link = .up
      ∧ (MemResp.ofPacket (mAnswer 0 1 0 0)).epoch ≠ busy.sched.epoch
      ∧ busy.sched.dtags[(MemResp.ofPacket (mAnswer 7 0 0 0)).dtag] = .free
      ∧ ((after (.responseTimerExpiry 6) busy).sched.link = .up
        ∧ (MemResp.ofPacket (mAnswer 1 0 0 9)).epoch = (after (.responseTimerExpiry 6) busy).sched.epoch
        ∧ (after (.responseTimerExpiry 6) busy).sched.dtags[(MemResp.ofPacket (mAnswer 1 0 0 9)).dtag] = .stale)
      ∧ (busy.sched.dtags[(MemResp.ofPacket (mAnswer 1 0 0 9)).dtag] = .read 6 8
        ∧ (MemResp.ofPacket (mAnswer 1 0 0 9)).result = .good ∧ (MemResp.ofPacket (mAnswer 1 0 0 9)).length ≠ 8)
      ∧ (busy.sched.dtags[(MemResp.ofPacket (mAnswer 0 0 0 1)).dtag] = .write 0 ∧ (mAnswer 0 0 0 1).data.length ≠ 0)
      ∧ (busy.sched.dtags[(MemResp.ofPacket (mAnswer 2 0 3 1)).dtag] = .sweep 5 200
        ∧ (MemResp.ofPacket (mAnswer 2 0 3 1)).length ≠ 0) := by
  and_intros <;> decide

/-- The ISSUED entry of the work in flight. -/
def issued : PwqEntry := queued 0 0x1040040 64 ⟨false, true, false, false⟩ (.issued 0 200)

theorem witness_RemovedEntriesReleaseWhatWaitedForThem :
    busy.WorkTied ∧ issued ∈ busy.pwq.entries ∧ issued.state = .issued 0 200
      ∧ QueueEntryEnds busy issued 0 (.pwqResponseTimerExpiry 0) (some .writeTimeout) .stale false
      ∧ QueueEntryEnds busy issued 0 (.memResp (mAnswer 0 0 0 0)) none .free false
      ∧ QueueEntryEnds busy issued 0 (.memResp (mAnswer 0 0 1 0)) none .free true
      ∧ QueueEntryEnds busy issued 0 (.memResp (mAnswer 0 0 2 0)) (some .writeFailed) .free false
      ∧ QueueEntryEnds busy issued 0 (.memResp (mAnswer 0 0 3 0)) (some .writeFailed) .free false := by
  refine ⟨busy_workTied, by decide, by decide, .inl ⟨rfl, rfl, rfl, rfl⟩, ?_, ?_, ?_, ?_⟩
  all_goals exact .inr ⟨_, rfl, by decide, by decide, rfl, by decide, by decide, by decide, rfl, rfl, rfl⟩

/-- An ISSUED entry that owes the completion of U0's ACK write. -/
def owing : State :=
  working mapped [{ queued 1 0x1040000 4 ⟨true, false, false, false⟩ (.issued 0 200) with owed := [2] }]
    [tracked 2 .u0 9 (.ackM 1) .waiting] (.write 1, .free, .free) (.free, .free, .free)

theorem owing_workTied : owing.WorkTied := by
  refine ⟨by decide, by decide, by decide, ?_, ?_, ?_, ?_, by decide⟩
  · refine List.forall_mem_cons.mpr ⟨⟨by decide, ?_, trivial⟩, by simp⟩
    show ∃ q ∈ owing.pwq.entries, q.slot = 1 ∧ (2 : Fin 24) ∈ q.owed
    decide
  · refine List.forall_mem_cons.mpr ⟨⟨?_, by decide, by decide, by decide⟩, by simp⟩
    show owing.sched.dtags[(0 : Fin 8)] = .write 1
    decide
  · intro d
    fin_cases d
    · exact ⟨_, .head _, rfl, rfl⟩
    all_goals exact trivial
  · intro t
    fin_cases t
    all_goals exact trivial

theorem witness_RemovedEntriesReleaseWhatWaitedForThem_owed :
    owing.WorkTied ∧ { queued 1 0x1040000 4 ⟨true, false, false, false⟩ (.issued 0 200) with owed := [2] } ∈ owing.pwq.entries
      ∧ (∃ e ∈ owing.tracker.entries, e.work = .ackM 1 ∧ e.port = .u0 ∧ e.orphan = false) ∧ (owing.ports.get .u0).state = .up := by
  refine ⟨owing_workTied, by decide, by decide, by decide⟩

theorem witness_FlushesReportTheFailureThatEndsThem :
    let e := tracked 3 .u1 2 (.flush [0]) .waiting
    busy.WorkTied ∧ issued ∈ busy.pwq.entries ∧ issued.state = .issued 0 200
      ∧ QueueEntryEnds busy issued 0 (.pwqResponseTimerExpiry 0) (some .writeTimeout) .stale false
      ∧ e ∈ busy.tracker.entries ∧ e.work = .flush [0] ∧ ([0] : List (Fin 16)).all (· = issued.slot) = true ∧ e.orphan = false
      ∧ (busy.ports.get e.port).state = .up :=
  ⟨busy_workTied, by decide, by decide, .inl ⟨rfl, rfl, rfl, rfl⟩, by decide, by decide, by decide, by decide, by decide⟩

/-- Work in flight with U1, whose FLUSH awaits slot 0, DISABLED. -/
def busyDisabled : State := busy.modPort .u1 fun b => { b with state := .disabled }

theorem witness_FlushesReportTheFailureThatEndsThem_disabled :
    busyDisabled.WorkTied ∧ issued ∈ busyDisabled.pwq.entries
      ∧ QueueEntryEnds busyDisabled issued 0 (.pwqResponseTimerExpiry 0) (some .writeTimeout) .stale false
      ∧ tracked 3 .u1 2 (.flush [0]) .waiting ∈ busyDisabled.tracker.entries ∧ (busyDisabled.ports.get .u1).state ≠ .up :=
  ⟨⟨busy_workTied.1, busy_workTied.2.1, busy_workTied.2.2.1, busy_workTied.2.2.2.1, busy_workTied.2.2.2.2.1,
      busy_workTied.2.2.2.2.2.1, busy_workTied.2.2.2.2.2.2.1, by decide⟩,
    by decide, .inl ⟨rfl, rfl, rfl, rfl⟩, by decide, by decide⟩

/-- A SEALED entry and an OPEN tail. -/
def openTail : State := queueing up [queued 0 7 8 (.const false) .sealed, queued 1 7 8 (.const false) (.openFor 10)]

theorem witness_SealTimerSealsTheOpenTail :
    (openTail.QueueOrdered
        ∧ openTail.pwq.entries = [queued 0 7 8 (.const false) .sealed] ++ [queued 1 7 8 (.const false) (.openFor 10)]
        ∧ (queued 1 7 8 (.const false) (.openFor 10)).state = .openFor 10)
      ∧ busy.QueueOrdered ∧ ∀ q ∈ busy.pwq.entries, q.isOpen = false := by
  and_intros <;> decide

theorem witness_ResponseTimersEndIssuedWork :
    (busy.entryAt 6 = some (tracked 6 .u2 7 (.readM 0x041004000 8 (.entry 4) 4) (.issued 1 false 200)))
      ∧ (busy.entryAt 4 = some (tracked 4 .u3 4 (.readX 0x1000000200 4 (.entry 6) 4) (.issued 0 false 2000)))
      ∧ (busy.entryAt 5 = some (tracked 5 .u3 5 (.ackX 0x1000000000 (.entry 6) 4) (.issued 1 false 2000)))
      ∧ (∀ e ∈ busy.tracker.entries, e.index ≠ 23) ∧ (busy.entryAt 0).map (fun e => e.state) = some .ready
      ∧ (∀ q ∈ busy.pwq.entries, q.slot = 1 → q.isIssued = false)
      ∧ busy.sched.dtags[(2 : Fin 8)] = .sweep 5 200 ∧ busy.sched.dtags[(7 : Fin 8)] = .free ∧ up.sweep.timer = none := by
  and_intros <;> decide

theorem witness_SweepTimerQueuesTheNextRow :
    sweeping.sweep.timer ≠ none
      ∧ ({ sweeping with sched := State.reset.sched } : State).sched.link = .down
      ∧ (sweeping.sched.link = .up ∧ 4 ≤ sweeping.sweep.queue.length)
      ∧ ({ sweeping.sweep with queue := [5, 0, 1] } : SweepGen).queue.length < 4
      ∧ ({ sweeping.sweep with queue := [5, 0, 1] } : SweepGen).timer ≠ none := by decide

theorem witness_SelectionsApplyTheChecks :
    ((withHead up .u1 (control 4 5 0 none) .waitEngine none).Selects .u1 (control 4 5 0 none) .object
        ∧ (control 4 5 0 none).checks ((withHead up .u1 (control 4 5 0 none) .waitEngine none).ports.get .u1).rights = some .refused)
      ∧ (up.NothingOwed ∧ up.engineWinner = none)
      ∧ ((asked up (control 4 5 0 none)).NothingOwed
        ∧ (asked up (control 4 5 0 none)).engineWinner = some (.u0, control 4 5 0 none) ∧ (control 4 5 0 none).row ≠ .commit)
      ∧ ((up.ports.get .u1).rights.management = false ∧ (up.ports.get .u0).rights.management = true)
      ∧ ((control 6 1 0 (some 0)).kind = .ctrlAction ∧ (control 6 1 0 (some 0)).code = 1 ∧ (control 6 11 0 (some 0)).code = 11)
      ∧ ((control 4 0 0 none).kind = .ctrlRead ∧ (control 4 0 0 none).code = 0 ∧ (control 5 29 0 (some 0)).code = 29)
      ∧ ((control 5 28 0 (some 0)).kind = .ctrlWrite ∧ (control 5 28 0 (some 0)).code = 28)
      ∧ ((control 4 28 9 none).kind = .ctrlRead ∧ (control 4 28 9 none).index = 9 ∧ (control 4 28 10 none).index = 10)
      ∧ ((control 5 1 63 (some 0)).kind = .ctrlWrite ∧ (control 5 1 63 (some 0)).code ∉ [2, 4, 5, 7, 9, 10, 19, 20, 21, 22, 23, 24, 25, 28]
        ∧ (control 5 1 63 (some 0)).index = 63) := by
  and_intros <;> decide

theorem witness_CommitsPublishOrReject :
    ((asked (staging 0xDF0000) (control 6 1 0 (some 0))).Serves .u0 (control 6 1 0 (some 0)) .commit
        ∧ (staging 0xDF0000).regionMap.staged.commitFailure = none)
      ∧ ((asked (staging 0xEF0000) (control 6 1 0 (some 0))).Serves .u0 (control 6 1 0 (some 0)) .commit
        ∧ (staging 0xEF0000).regionMap.staged.commitFailure = some (3, 2)) := by
  and_intros <;> decide

theorem witness_StagedTableChangesAsWritten :
    (asked mapped (control 6 2 0 (some 0))).Serves .u0 (control 6 2 0 (some 0)) .stageFromActive
      ∧ ((asked up (control 5 1 62 (some (1 <<< 56)))).Serves .u0 (control 5 1 62 (some (1 <<< 56))) .regionStagedWrite
        ∧ (control 5 1 62 (some (1 <<< 56))).index = 2 * 31
        ∧ Word64.field (control 5 1 62 (some (1 <<< 56))).value 56 2 = RegionTarget.memory.code
        ∧ Word64.field (control 5 1 62 (some (1 <<< 56))).value 59 4 = 0)
      ∧ ((asked up (control 5 1 0 (some (3 <<< 56)))).Serves .u0 (control 5 1 0 (some (3 <<< 56))) .regionStagedWrite
        ∧ Word64.field (control 5 1 0 (some (3 <<< 56))).value 56 2 = 3)
      ∧ Word64.field (control 5 1 0 (some (1 <<< 62))).value 59 4 ≠ 0
      ∧ ((asked up (control 5 1 63 (some (1 <<< 60 + 255)))).Serves .u0 (control 5 1 63 (some (1 <<< 60 + 255))) .regionStagedWrite
        ∧ (control 5 1 63 (some (1 <<< 60 + 1 <<< 32 + 255))).index = 2 * 31 + 1
        ∧ Word64.field (control 5 1 63 (some (1 <<< 60 + 1 <<< 32 + 255))).value 8 24 = 0
        ∧ Word64.field (control 5 1 63 (some (1 <<< 60 + 1 <<< 32 + 255))).value 61 3 = 0
        ∧ (Word64.field (control 5 1 63 (some (1 <<< 60 + 1 <<< 32 + 255))).value 32 29).toInt = -2 ^ 28 + 1)
      ∧ (Word64.field (control 5 1 1 (some (1 <<< 60))).value 32 29).toInt = -2 ^ 28
      ∧ Word64.field (control 5 1 1 (some 256)).value 8 24 ≠ 0 ∧ Word64.field (control 5 1 1 (some (1 <<< 61))).value 61 3 ≠ 0
      ∧ ((asked up (control 5 3 0 (some 2))).Serves .u0 (control 5 3 0 (some 2)) .defaultTargetStagedWrite
        ∧ (control 5 3 0 (some 2)).value = DefaultTarget.extension.value)
      ∧ ((asked up (control 5 3 0 (some 1))).Serves .u0 (control 5 3 0 (some 1)) .defaultTargetStagedWrite
        ∧ (control 5 3 0 (some 1)).value ≠ 0 ∧ (control 5 3 0 (some 1)).value ≠ 2) := by
  and_intros <;> decide

theorem witness_WindowActionsFollowTheirTable :
    (∀ w ∈ [WindowState.closed, .opened, .locked],
        (asked (windowed w) (control 6 3 0 (some 0))).Serves .u0 (control 6 3 0 (some 0)) .windowOpen
          ∧ (asked (windowed w) (control 6 4 0 (some 0))).Serves .u0 (control 6 4 0 (some 0)) .windowClose
          ∧ (asked (windowed w) (control 6 5 0 (some 0))).Serves .u0 (control 6 5 0 (some 0)) .windowLock)
      ∧ ∀ w ∈ [WindowState.closed, .opened, .locked], (windowed w).window.state = w := by
  and_intros <;> decide

/-- Descriptor words: base 0xFFFFF00 and size 256 fit exactly; one page more does not; a size above 256 and a set unused bit. -/
theorem witness_WindowWritesReplaceTheDescriptor :
    ((up.ports.get .u0).rights.management = true
        ∧ ∀ v ∈ [0xFFFF00_10_0FFFFF00, 0xFFFF00_10_0FFFFF01, 0xFFFF01_10_0FFFFF00, 0xFFFF00_10_1FFFFF00, 0x2000000000],
          (asked up (control 5 6 0 (some v))).Selects .u0 (control 5 6 0 (some v)) .windowWrite
            ∧ ((asked up (control 5 6 0 (some v))).ports.get .u0).rights.management = true
            ∧ (control 5 6 0 (some v)).index = 0)
      ∧ (asked (windowed .opened) (control 5 6 0 (some 0))).Selects .u0 (control 5 6 0 (some 0)) .windowWrite
      ∧ ((asked up (control 5 6 1 (some 0))).Selects .u0 (control 5 6 1 (some 0)) .windowWrite
        ∧ (control 5 6 1 (some 0)).index ≠ 0)
      ∧ (windowed .opened).window.state ≠ .closed ∧ up.window.state = .closed
      ∧ ((Word64.field 0xFFFF00_10_0FFFFF00 28 9).toNat = 256 ∧ (Word64.field 0xFFFF00_10_0FFFFF00 0 28).toNat + 256 = 2 ^ 28
        ∧ (Word64.field 0xFFFF00_10_0FFFFF00 40 24).toNat + 256 = 2 ^ 24 ∧ Word64.field 0xFFFF00_10_0FFFFF00 37 3 = 0)
      ∧ 2 ^ 28 < (Word64.field 0xFFFF00_10_0FFFFF01 0 28).toNat + 256
      ∧ 2 ^ 24 < (Word64.field 0xFFFF01_10_0FFFFF00 40 24).toNat + 256
      ∧ (Word64.field 0xFFFF00_10_1FFFFF00 28 9).toNat = 257 ∧ Word64.field 0x2000000000 37 3 ≠ 0 := by
  and_intros <;> decide

theorem witness_LogActionsRemoveRecords :
    ((asked up (control 6 6 0 (some 0))).Serves .u0 (control 6 6 0 (some 0)) .logPop ∧ up.log.records = [])
      ∧ ((asked fullLog (control 6 6 0 (some 0))).Serves .u0 (control 6 6 0 (some 0)) .logPop
        ∧ fullLog.log.records.head? = some ⟨40, { kind := .linkLost }⟩)
      ∧ (asked fullLog (control 6 7 0 (some 0))).Serves .u0 (control 6 7 0 (some 0)) .logClear := by
  and_intros <;> decide

theorem witness_PortsAreDisabledAndEnabled :
    (∀ v ∈ [0, 1, 2, 3, 4], (asked mixed (control 6 8 0 (some v))).Serves .u0 (control 6 8 0 (some v)) .portDisable
        ∧ (asked mixed (control 6 9 0 (some v))).Serves .u0 (control 6 9 0 (some v)) .portEnable
        ∧ (control 6 8 0 (some v)).value.toNat = v ∧ (control 6 9 0 (some v)).value.toNat = v)
      ∧ Port.u0.code = 0 ∧ (Port.u1.code = 1 ∧ (mixed.ports.get .u1).state = .up)
      ∧ (Port.u2.code = 2 ∧ (mixed.ports.get .u2).state = .disabled) ∧ (Port.u3.code = 3 ∧ (mixed.ports.get .u3).state = .down) := by
  and_intros <;> decide

theorem witness_WarmResetEndsAllWorkInOrder :
    (asked busyWaiting (control 6 10 0 (some 0))).Serves .u0 (control 6 10 0 (some 0)) .warmReset
      ∧ (asked busyWaiting (control 6 10 0 (some 0))).CreditsAddUp
      ∧ ((asked busyWaiting (control 6 10 0 (some 0))).ports.get .u2).state = .up := by
  and_intros <;> decide

theorem witness_RightsWritesReplaceRights :
    (∀ v ∈ [1024, 264, 2048, 2304, 255, 1030],
        (asked up (control 5 8 0 (some v))).Serves .u0 (control 5 8 0 (some v)) .portRightsWrite
          ∧ (control 5 8 0 (some v)).index = Port.u0.code ∧ (control 5 8 0 (some v)).value.toNat = v)
      ∧ ¬264 % 256 < 8 ∧ ¬2304 / 256 ≤ 8 ∧ ¬1 ≤ 255 / 256
      ∧ (1030 % 256 < 8 ∧ 1 ≤ 1030 / 256 ∧ 1030 / 256 ≤ 8
        ∧ ¬∃ u ∈ [Port.u1, .u2, .u3], (up.ports.get u).state = .up ∧ (up.ports.get u).rights.management = true)
      ∧ ((asked up (control 5 8 3 (some 2055))).Serves .u0 (control 5 8 3 (some 2055)) .portRightsWrite
        ∧ (control 5 8 3 (some 2055)).index = Port.u3.code ∧ (up.ports.get .u3).progress ≠ .waitRoom
        ∧ (up.ports.get .u0).rights.management = true)
      ∧ (let s := asked (withHead up .u3 readM .waitRoom none) (control 5 8 3 (some 2055))
        s.Serves .u0 (control 5 8 3 (some 2055)) .portRightsWrite ∧ (s.ports.get .u3).progress = .waitRoom) := by
  and_intros <;> decide

theorem witness_SettingsWritesHaveTheirEffects :
    (∀ v ∈ [0, 3, 4, 5], (asked up (control 5 11 0 (some v))).Serves .u0 (control 5 11 0 (some v)) .favouredWrite
        ∧ (control 5 11 0 (some v)).value.toNat = v)
      ∧ (favouredCode (some .u0) = 0 ∧ favouredCode (some .u3) = 3 ∧ favouredCode none = 4)
      ∧ (∀ v ∈ [0, 255, 256], (asked up (control 5 14 0 (some v))).Serves .u0 (control 5 14 0 (some v)) .combineWindowWrite
        ∧ (control 5 14 0 (some v)).value.toNat = v)
      ∧ (∀ v ∈ [0, 65535, 65536], (asked up (control 5 17 0 (some v))).Serves .u0 (control 5 17 0 (some v)) .sweepIntervalWrite
        ∧ (control 5 17 0 (some v)).value.toNat = v)
      ∧ ∀ v ∈ [0, 1, 2 ^ 20, 2 ^ 20 + 1], (asked up (control 5 18 0 (some v))).Serves .u0 (control 5 18 0 (some v)) .sweepRowsWrite
        ∧ (control 5 18 0 (some v)).value.toNat = v := by
  and_intros <;> decide

theorem witness_ObjectsAreWrittenAndRead :
    (∀ code ∈ [12, 13, 15, 16, 26, 27], ∀ v ∈ [0, 1, 3, 4, 16, 65536],
        (asked up (control 5 code 0 (some v))).Serves .u0 (control 5 code 0 (some v)) .object
          ∧ (control 5 code 0 (some v)).kind = .ctrlWrite ∧ (control 5 code 0 (some v)).code = code)
      ∧ (∀ code ∈ (List.range 28).map (· + 1), (asked up (control 4 code 0 none)).Serves .u0 (control 4 code 0 none) .object
        ∧ (control 4 code 0 none).kind = .ctrlRead ∧ (control 4 code 0 none).code = code)
      ∧ (∀ x ∈ [(1, 63), (2, 62), (8, 3), (9, 3), (10, 3), (21, 1), (24, 1), (28, 9)],
        (asked up (control 4 x.1 x.2 none)).Serves .u0 (control 4 x.1 x.2 none) .object
          ∧ (control 4 x.1 x.2 none).code = x.1 ∧ (control 4 x.1 x.2 none).index = x.2)
      ∧ up.log.records = [] ∧ fullLog.log.records.head? = some ⟨40, { kind := .linkLost }⟩
      ∧ (asked fullLog (control 4 24 0 none)).Serves .u0 (control 4 24 0 none) .object := by
  and_intros <;> decide

/-- Notices are on. -/
def noticing : State := { up with log := { up.log with noticeEnable := true } }

theorem witness_RecordsAreStoredAndNoticedOrCounted :
    (noticing.log.records.length < 8 ∧ noticing.log.noticeEnable = true ∧ (noticing.ports.get noticing.log.noticePort).state = .up)
      ∧ (up.log.records.length < 8 ∧ up.log.noticeEnable = false)
      ∧ (State.reset.ports.get State.reset.log.noticePort).state ≠ .up ∧ 8 ≤ fullLog.log.records.length := by decide

theorem witness_ControlValuesAndRecordsKeepTheirFields :
    table.entries[4].offset.toInt ≠ -2 ^ 28
      ∧ (RegionEntry.reset.withWord0 0x85_02000FF_0200000).isSome = true
      ∧ (RegionEntry.reset.withWord1 0x0040000_0_000000_3F).isSome = true
      ∧ ((windowed .closed).window.desc.size ≤ 256 ∧ (windowed .closed).window.desc.base.toNat + 16 ≤ 2 ^ 28
        ∧ (windowed .closed).window.desc.memBase.toNat + 16 ≤ 2 ^ 24)
      ∧ (WindowDesc.ofWord 0xFFFF00_10_0FFFFF00).isSome = true
      ∧ (1 ≤ (up.ports.get .u0).rights.quota ∧ (up.ports.get .u0).rights.quota ≤ 8) ∧ (Rights.ofValue 2055).isSome = true := by
  decide

theorem witness_TheLowestFreeNumberIsTaken : busy.tracker.entries.length < 24 ∧ busy.pwq.entries.length < 16 := by decide

/-- The work in flight with a command in front of the queue. -/
def commanded (c : Instr) (s : State) : State := { s with pending := [c] }

theorem witness_EveryStepKeepsCreditsAddingUp :
    (commanded (.portLinkLost .u1) mixed).CreditsAddUp ∧ ∃ t, step (commanded (.portLinkLost .u1) mixed) = .next t :=
  ⟨by decide, _, rfl⟩

theorem witness_TheActiveTableChangesOnlyByCommit :
    (commanded .commit (asked (staging 0xDF0000) (control 6 1 0 (some 0)))).ActiveTableSound
      ∧ ∃ t, step (commanded .commit (asked (staging 0xDF0000) (control 6 1 0 (some 0)))) = .next t :=
  ⟨by decide, _, rfl⟩

theorem witness_TheLockedWindowStaysUntilColdReset :
    let s := commanded .windowClose (asked (windowed .locked) (control 6 4 0 (some 0)))
    s.window.state = .locked ∧ s.pending.head? ≠ some .coldReset ∧ ∃ t, step s = .next t :=
  ⟨by decide, by decide, _, rfl⟩

theorem witness_EveryStepKeepsTheLogNumbered :
    (commanded (.portLinkLost .u1) fullLog).LogNumbered ∧ ∃ t, step (commanded (.portLinkLost .u1) fullLog) = .next t :=
  ⟨by decide, _, rfl⟩

theorem witness_EveryStepKeepsSettingsAndCountersInRange :
    let s := commanded .sweepTimerExpiry { sweeping with ext := { sweeping.ext with credits := 8 } }
    s.SettingsInRange ∧ s.SweepsBounded ∧ s.HoldSound ∧ s.XCreditsBounded ∧ ∃ t, step s = .next t :=
  ⟨by decide, by decide, by decide, by decide, _, rfl⟩

theorem witness_EveryStepKeepsLiveTagsUnique :
    (commanded (.admissionAdvance .u1) (withHead busy .u1 readM .examine none)).TagsUnique
      ∧ ∃ t, step (commanded (.admissionAdvance .u1) (withHead busy .u1 readM .examine none)) = .next t :=
  ⟨by decide, _, rfl⟩

theorem witness_EveryStepKeepsWorkTied :
    (commanded .arbitration busy).WorkTied ∧ ∃ t, step (commanded .arbitration busy) = .next t := ⟨busy_workTied, _, rfl⟩

theorem witness_RightsChangeOnlyByTheirWrite :
    let s := commanded .portRightsWrite (asked up (control 5 8 2 (some 1025)))
    ∃ t, step s = .next t ∧ (t.ports.get .u2).rights ≠ (s.ports.get .u2).rights :=
  ⟨_, rfl, by decide⟩

theorem witness_PortsThatAreNotUpAreSentCreditsAtMost :
    (∃ t, exec (.arrival .u2 (packet 0x203)) mixed = .next t) ∧ (mixed.ports.get .u2).state ≠ .up
      ∧ (mixed.ports.get .u3).state = .down
      ∧ ∀ p, Instr.arrival .u2 (packet 0x203) ≠ .coldReset ∧ Instr.arrival .u2 (packet 0x203) ≠ .portLinkReady p
        ∧ Instr.arrival .u2 (packet 0x203) ≠ .portLinkLost p := by
  refine ⟨⟨_, rfl⟩, by decide, by decide, fun p => by cases p <;> decide⟩

end Sys2Proof.Tests
end

section
/-! The Region Map under the shared operations and the events of traffic, links and timers: it stays as it is (R12). -/

namespace Sys2Proof.Machine

/-! ### Records and the end of an event -/

@[simp] theorem State.handAll_regionMap (s : State) (rs : List ErrorRecord) : (s.handAll rs).regionMap = s.regionMap :=
  (s.handAll_frame rs).2.1

@[simp] theorem Event.close_regionMap (e : Event) : (Event.close e).regionMap = e.1.regionMap := by
  simp [Event.close]

@[simp] theorem Event.record_regionMap (e : Event) : (Event.record e).regionMap = e.1.regionMap := by
  simp [Event.record]

/-! ### Shared operations -/

@[simp] theorem answerOwed_regionMap (st : Status) (is : List (Fin 24)) (s : State) :
    (answerOwed st is s).regionMap = s.regionMap :=
  (answerOwed_frame st is s).2.1

@[simp] theorem State.removePwq_regionMap (s : State) (e : PwqEntry) (st : Status) (failed : Option RecordKind) :
    (s.removePwq e st failed).1.regionMap = s.regionMap :=
  (s.removePwq_frame e st failed).2.1

/-! ### Admission (chapter 4) -/

@[simp] theorem State.answerHead_regionMap (s : State) (p : Port) (r : Request) (st : Status) :
    (s.answerHead p r st).1.regionMap = s.regionMap := rfl

@[simp] theorem State.dropHead_regionMap (s : State) (p : Port) (r : Request) (kind : RecordKind)
    (c : Option Classification) : (s.dropHead p r kind c).1.regionMap = s.regionMap := rfl

@[simp] theorem State.waitHead_regionMap (s : State) (p : Port) (g : Progress) (c : Option Classification) :
    (s.waitHead p g c).1.regionMap = s.regionMap := rfl

theorem State.takeWrite_regionMap {s t : State} {p : Port} {a : BitVec 36} {r : Request} {c : Classification}
    {owed : Option (Fin 24)} {slot : Fin 16} (h : s.takeWrite p a r c owed = some (t, slot)) :
    t.regionMap = s.regionMap := by
  unfold State.takeWrite at h
  dsimp only at h
  split at h
  · split at h
    · cases h; rfl
    · split at h <;> cases h
      rfl
  · cases h; rfl

@[simp] theorem State.dispatchRead_regionMap (s : State) (p : Port) (r : Request) (a : BitVec 36) (c : Classification) :
    (s.dispatchRead p r a c).1.regionMap = s.regionMap := by
  unfold State.dispatchRead
  split
  · simp
  · dsimp only
    split <;> simp

@[simp] theorem State.dispatchWrite_regionMap (s : State) (p : Port) (r : Request) (a : BitVec 36) (c : Classification) :
    (s.dispatchWrite p r a c).1.regionMap = s.regionMap := by
  unfold State.dispatchWrite
  dsimp only
  split
  · simp
  · next h =>
    rw [← State.takeWrite_regionMap h]
    split <;> simp

@[simp] theorem State.dispatchFlush_regionMap (s : State) (p : Port) (r : Request) :
    (s.dispatchFlush p r).1.regionMap = s.regionMap := by
  unfold State.dispatchFlush
  dsimp only
  split <;> simp

@[simp] theorem State.dispatch_regionMap (s : State) (p : Port) (r : Request) (c : Classification) :
    (s.dispatch p r c).1.regionMap = s.regionMap := by
  unfold State.dispatch
  split
  · split <;> simp
  · simp
  · rfl

@[simp] theorem State.stepAccess_regionMap (s : State) (p : Port) (r : Request) (c : Classification) :
    (s.stepAccess p r c).1.regionMap = s.regionMap := by
  unfold State.stepAccess
  split
  · split
    · simp
    · split <;> simp
  · split <;> simp
  · split <;> simp

@[simp] theorem State.stepClassify_regionMap (s : State) (p : Port) (r : Request) :
    (s.stepClassify p r).1.regionMap = s.regionMap := by
  unfold State.stepClassify
  split <;> simp

@[simp] theorem State.stepRoom_regionMap (s : State) (p : Port) (r : Request) :
    (s.stepRoom p r).1.regionMap = s.regionMap := by
  unfold State.stepRoom
  split <;> simp

@[simp] theorem State.stepTag_regionMap (s : State) (p : Port) (r : Request) :
    (s.stepTag p r).1.regionMap = s.regionMap := by
  unfold State.stepTag
  split <;> simp

@[simp] theorem State.stepBarrier_regionMap (s : State) (p : Port) (r : Request) :
    (s.stepBarrier p r).1.regionMap = s.regionMap := by
  unfold State.stepBarrier
  split <;> simp

@[simp] theorem State.stepMalformed_regionMap (s : State) (p : Port) (r : Request) :
    (s.stepMalformed p r).1.regionMap = s.regionMap := by
  unfold State.stepMalformed
  split
  · split <;> simp
  · simp

@[simp] theorem State.stepFormat_regionMap (s : State) (p : Port) (r : Request) :
    (s.stepFormat p r).1.regionMap = s.regionMap := by
  unfold State.stepFormat
  split
  · simp
  · split <;> simp

@[simp] theorem State.offerAgain_regionMap (s : State) (p : Port) (r : Request) :
    (s.offerAgain p r).1.regionMap = s.regionMap := by
  unfold State.offerAgain
  split
  · split <;> simp
  · rfl

@[simp] theorem State.advance_regionMap (s : State) (p : Port) : (s.advance p).1.regionMap = s.regionMap := by
  unfold State.advance
  dsimp only
  split
  · split
    · simp
    · split <;> simp
    · split <;> simp
    · simp
    · rfl
    · rfl
  · rfl

/-! ### Links (sections 3.4 and 3.6) -/

@[simp] theorem State.endWaiting_regionMap (s : State) (g : Progress) (p : Port) :
    (s.endWaiting g p).1.regionMap = s.regionMap := by
  unfold State.endWaiting
  dsimp only
  split
  · split
    · split <;> simp
    · rfl
  · rfl

@[simp] theorem State.endWaitingAll_regionMap (g : Progress) (ps : List Port) (e : Event) :
    (State.endWaitingAll g ps e).1.regionMap = e.1.regionMap := by
  induction ps generalizing e with
  | nil => rfl
  | cons p ps ih => simp [State.endWaitingAll, ih]

@[simp] theorem State.discardPwq_regionMap (s : State) : s.discardPwq.1.regionMap = s.regionMap := by
  simp [State.discardPwq]

@[simp] theorem State.loseM_regionMap (s : State) : s.loseM.1.regionMap = s.regionMap := by
  simp [State.loseM]

@[simp] theorem State.loseX_regionMap (s : State) : s.loseX.1.regionMap = s.regionMap := by
  simp [State.loseX]

/-! ### The Memory Port Scheduler and the Extension Forwarder (chapters 7 and 9) -/

@[simp] theorem State.issue_regionMap (s : State) (d : Fin 8) (w : Winner) : (s.issue d w).regionMap = s.regionMap := by
  cases w with
  | port e =>
    unfold State.issue
    dsimp only
    split <;> simp
  | pwq e => simp [State.issue]
  | sweep row => simp [State.issue]

@[simp] theorem State.arbitrate_regionMap (s : State) : s.arbitrate.regionMap = s.regionMap := by
  unfold State.arbitrate
  split
  · simp [State.grant]
  · rfl

@[simp] theorem State.grantCredit_regionMap (s : State) : s.grantCredit.1.regionMap = s.regionMap := by
  unfold State.grantCredit
  split
  · split
    · split
      · simp [State.forwardPosted]
      · split <;> simp [State.forwardTracked]
    · rfl
  · rfl

/-! ### Packets that arrive (chapters 3, 6, 8 and 9) -/

@[simp] theorem State.fromUpstream_regionMap (s : State) (p : Port) (pkt : Packet) :
    (s.fromUpstream p pkt).1.regionMap = s.regionMap := by
  unfold State.fromUpstream State.arrive
  dsimp only
  split
  · split
    · rfl
    · simp
    · split <;> simp
  · rfl

@[simp] theorem State.takeRead_regionMap (s : State) (d : Fin 8) (e : TrackerEntry) (r : MemResp) :
    (s.takeRead d e r).1.regionMap = s.regionMap := by
  unfold State.takeRead
  dsimp only
  split <;> simp

@[simp] theorem State.takePwq_regionMap (s : State) (d : Fin 8) (e : PwqEntry) (r : MemResp) :
    (s.takePwq d e r).1.regionMap = s.regionMap := by
  unfold State.takePwq
  dsimp only
  split <;> simp

@[simp] theorem State.takeSweep_regionMap (s : State) (d : Fin 8) (row : BitVec 20) (r : MemResp) :
    (s.takeSweep d row r).1.regionMap = s.regionMap := by
  unfold State.takeSweep
  dsimp only
  split <;> simp

@[simp] theorem State.unknownM_regionMap (s : State) (r : MemResp) : (s.unknownM r).1.regionMap = s.regionMap := rfl

@[simp] theorem State.judgeM_regionMap (s : State) (r : MemResp) : (s.judgeM r).1.regionMap = s.regionMap := by
  unfold State.judgeM
  split
  · rfl
  · split
    · simp
    · simp [State.lateM]
    · next n _ =>
      split
      · by_cases hc : r.carries (if r.result.ok then n else 0) = true <;> simp [hc]
      · simp
    · split
      · split <;> simp
      · simp
    · split <;> simp

@[simp] theorem State.fromM_regionMap (s : State) (pkt : Packet) : (s.fromM pkt).1.regionMap = s.regionMap := by
  unfold State.fromM
  split
  · rfl
  · split <;> simp

@[simp] theorem State.takeX_regionMap (s : State) (e : TrackerEntry) (c : XCompletion) :
    (s.takeX e c).1.regionMap = s.regionMap := by
  unfold State.takeX
  dsimp only
  split <;> simp

@[simp] theorem State.judgeX_regionMap (s : State) (c : XCompletion) : (s.judgeX c).1.regionMap = s.regionMap := by
  unfold State.judgeX
  split
  · rfl
  · split
    · rfl
    · split
      · rfl
      · simp [State.lateX]
      · split
        · split
          · simp
          · rfl
        · rfl

@[simp] theorem State.creditX_regionMap (s : State) (n : Nat) : (s.creditX n).1.regionMap = s.regionMap := by
  unfold State.creditX
  split <;> rfl

@[simp] theorem State.fromX_regionMap (s : State) (pkt : Packet) : (s.fromX pkt).1.regionMap = s.regionMap := by
  unfold State.fromX
  split
  · rfl
  · split
    · simp
    · split <;> simp

/-! ### Timers -/

@[simp] theorem State.expirePwq_regionMap (s : State) (slot : Fin 16) : (s.expirePwq slot).1.regionMap = s.regionMap := by
  unfold State.expirePwq
  split
  · split <;> simp
  · rfl

@[simp] theorem State.staleTag_regionMap (s : State) (e : TrackerEntry) (tag : Fin 8) :
    (s.staleTag e tag).regionMap = s.regionMap := by
  unfold State.staleTag
  split <;> simp

@[simp] theorem State.expireEntry_regionMap (s : State) (i : Fin 24) : (s.expireEntry i).1.regionMap = s.regionMap := by
  unfold State.expireEntry
  split
  · split <;> simp
  · rfl

@[simp] theorem State.expireSweep_regionMap (s : State) (d : Fin 8) : (s.expireSweep d).1.regionMap = s.regionMap := by
  unfold State.expireSweep
  split <;> simp

@[simp] theorem State.expireSweepTimer_regionMap (s : State) : s.expireSweepTimer.1.regionMap = s.regionMap := by
  unfold State.expireSweepTimer
  split
  · rfl
  · dsimp only
    split
    · rfl
    · split <;> rfl

end Sys2Proof.Machine
end

section
/-! The Region Map under the services of the Control Engine and under a whole step: who may change it, and what a COMMIT makes
active (R12). -/

namespace Sys2Proof.Machine

/-! ### Services that do not name the Region Map (chapter 10) -/

/-- What a service event leaves as the Region Map has every property that the map before it has and that the service gives. -/
theorem State.serve_regionMap_of {P : RegionMap → Prop} {s : State} {row : CtrlRow}
    {service : Port → Request → State → Served} (h0 : P s.regionMap)
    (hs : ∀ p r, P (service p r (s.select p)).state.regionMap) : P (s.serve row service).1.regionMap := by
  obtain ⟨-, h⟩ | ⟨p, r, -, -, ⟨st, -, h⟩ | ⟨-, h⟩⟩ := s.serve_cases row service
  · rwa [h]
  · rw [h]; exact h0
  · rw [h]; exact hs p r

@[simp] theorem State.serve_regionMap (s : State) (row : CtrlRow) {service : Port → Request → State → Served}
    (hs : ∀ p r u, (service p r u).state.regionMap = u.regionMap) : (s.serve row service).1.regionMap = s.regionMap :=
  State.serve_regionMap_of (P := (· = s.regionMap)) rfl fun p r => hs p r (s.select p)

@[simp] theorem State.windowTo_regionMap (s : State) (p : Port) (r : Request) (w : WindowState) (st : Status) :
    (s.windowTo p r w st).state.regionMap = s.regionMap := by
  unfold State.windowTo
  split <;> rfl

@[simp] theorem serveWindowOpen_regionMap (p : Port) (r : Request) (s : State) :
    (serveWindowOpen p r s).state.regionMap = s.regionMap := by
  unfold serveWindowOpen
  split <;> simp

@[simp] theorem serveWindowClose_regionMap (p : Port) (r : Request) (s : State) :
    (serveWindowClose p r s).state.regionMap = s.regionMap := by
  unfold serveWindowClose
  split <;> simp

@[simp] theorem serveWindowLock_regionMap (p : Port) (r : Request) (s : State) :
    (serveWindowLock p r s).state.regionMap = s.regionMap := by
  simp [serveWindowLock]

@[simp] theorem serveWindow_regionMap (p : Port) (r : Request) (s : State) :
    (serveWindow p r s).state.regionMap = s.regionMap := by
  unfold serveWindow
  split
  · rfl
  · rfl
  · split <;> rfl

@[simp] theorem serveLogPop_regionMap (p : Port) (r : Request) (s : State) :
    (serveLogPop p r s).state.regionMap = s.regionMap := by
  simp [serveLogPop]

@[simp] theorem serveLogClear_regionMap (p : Port) (r : Request) (s : State) :
    (serveLogClear p r s).state.regionMap = s.regionMap := by
  simp [serveLogClear]

@[simp] theorem servePortDisable_regionMap (p : Port) (r : Request) (s : State) :
    (servePortDisable p r s).state.regionMap = s.regionMap := by
  unfold servePortDisable
  split
  · rfl
  · split
    · rfl
    · split <;> rfl

@[simp] theorem servePortEnable_regionMap (p : Port) (r : Request) (s : State) :
    (servePortEnable p r s).state.regionMap = s.regionMap := by
  unfold servePortEnable
  split
  · rfl
  · split <;> rfl

@[simp] theorem servePortRights_regionMap (p : Port) (r : Request) (s : State) :
    (servePortRights p r s).state.regionMap = s.regionMap := by
  unfold servePortRights
  split
  · dsimp only
    split
    · split <;> simp
    · rfl
  · rfl

@[simp] theorem serveFavoured_regionMap (p : Port) (r : Request) (s : State) :
    (serveFavoured p r s).state.regionMap = s.regionMap := by
  unfold serveFavoured
  dsimp only
  split
  · rfl
  · split <;> rfl

@[simp] theorem serveCombineWindow_regionMap (p : Port) (r : Request) (s : State) :
    (serveCombineWindow p r s).state.regionMap = s.regionMap := by
  unfold serveCombineWindow
  dsimp only
  split
  · rfl
  · dsimp only
    split <;> rfl

@[simp] theorem serveSweepInterval_regionMap (p : Port) (r : Request) (s : State) :
    (serveSweepInterval p r s).state.regionMap = s.regionMap := by
  unfold serveSweepInterval
  dsimp only
  split <;> rfl

@[simp] theorem serveSweepRows_regionMap (p : Port) (r : Request) (s : State) :
    (serveSweepRows p r s).state.regionMap = s.regionMap := by
  unfold serveSweepRows
  dsimp only
  split <;> rfl

/-- A setting written leaves the Region Map alone: the Map's own objects are no settings. -/
theorem State.writeSetting_regionMap {s t : State} {o : Obj} {v : Nat} (h : s.writeSetting o v = some t) :
    t.regionMap = s.regionMap := by
  cases o with
  | holdBudget | watermark | timeoutM | timeoutX | noticeEnable =>
    simp only [State.writeSetting, Option.ite_none_right_eq_some, Option.some.injEq] at h
    rw [← h.2]
  | noticePort =>
    obtain ⟨q, -, rfl⟩ := Option.map_eq_some_iff.mp h
    rfl
  | _ => cases h

@[simp] theorem serveObject_regionMap (p : Port) (r : Request) (s : State) :
    (serveObject p r s).state.regionMap = s.regionMap := by
  unfold serveObject
  split
  · rfl
  · split
    · split
      · next h => exact State.writeSetting_regionMap h
      · rfl
    · rfl

@[simp] theorem serveWarmReset_regionMap (p : Port) (r : Request) (s : State) :
    (serveWarmReset p r s).state.regionMap = s.regionMap := by
  simp [serveWarmReset]

/-! ### Services of the Region Map -/

@[simp] theorem serveStageFromActive_active (p : Port) (r : Request) (s : State) :
    (serveStageFromActive p r s).state.regionMap.active = s.regionMap.active := by
  simp [serveStageFromActive]

@[simp] theorem serveRegionStaged_active (p : Port) (r : Request) (s : State) :
    (serveRegionStaged p r s).state.regionMap.active = s.regionMap.active := by
  unfold serveRegionStaged
  dsimp only
  split
  · rfl
  · split <;> rfl

@[simp] theorem serveDefaultStaged_active (p : Port) (r : Request) (s : State) :
    (serveDefaultStaged p r s).state.regionMap.active = s.regionMap.active := by
  unfold serveDefaultStaged
  split <;> rfl

@[simp] theorem State.serve_active (s : State) (row : CtrlRow) {service : Port → Request → State → Served}
    (hs : ∀ p r u, (service p r u).state.regionMap.active = u.regionMap.active) :
    (s.serve row service).1.regionMap.active = s.regionMap.active :=
  State.serve_regionMap_of (P := fun m => m.active = s.regionMap.active) rfl fun p r => hs p r (s.select p)

/-- A COMMIT that an entry fails reports it and leaves the state (R14). -/
theorem serveCommit_of_failure {s : State} {i : Fin 32} {c : Nat} (h : s.regionMap.staged.commitFailure = some (i, c))
    (p : Port) (r : Request) :
    serveCommit p r s = { state := s, status := .invalid, value := BitVec.ofNat 64 (i.val + 256 * c) } := by
  simp [serveCommit, h]

/-- A COMMIT that no entry fails makes the staged table active under the next generation (R15). -/
theorem serveCommit_of_sound {s : State} (h : s.regionMap.staged.commitFailure = none) (p : Port) (r : Request) :
    serveCommit p r s =
      { state := { s with regionMap :=
          ⟨s.regionMap.staged, s.regionMap.staged, s.regionMap.generation + 1⟩ }
        status := .ok, value := (s.regionMap.generation + 1).setWidth 64 } := by
  simp [serveCommit, h]

/-! ### Commands -/

/-- Every command but a cold reset, a COMMIT and the three that write the staged table leaves the whole Region Map as it is. -/
theorem exec_regionMap {i : Instr} {s t : State} (h : exec i s = .next t)
    (hi : i ∉ [.coldReset, .commit, .stageFromActive, .regionStagedWrite, .defaultTargetStagedWrite]) :
    t.regionMap = s.regionMap := by
  cases i with
  | coldReset | commit | stageFromActive | regionStagedWrite | defaultTargetStagedWrite => simp at hi
  | portLinkReady p =>
    change execPortLinkReady p s = _ at h
    unfold execPortLinkReady at h
    split at h <;> cases h <;> rfl
  | portLinkLost p =>
    change execPortLinkLost p s = _ at h
    unfold execPortLinkLost at h
    split at h <;> cases h <;> simp
  | mLinkLost =>
    change execMLinkLost s = _ at h
    unfold execMLinkLost at h
    split at h <;> cases h <;> simp
  | xLinkLost =>
    change execXLinkLost s = _ at h
    unfold execXLinkLost at h
    split at h <;> cases h <;> simp
  | mLinkReady | xLinkReady => cases h; rfl
  | packetOutOfPlace l pkt => cases l <;> cases h <;> simp
  | arrival | admissionAdvance | creditGrant | arbitration | memResp | xCompletion | xCredit | sealTimerExpiry
  | pwqResponseTimerExpiry | responseTimerExpiry | sweepResponseTimerExpiry | sweepTimerExpiry => cases h; simp
  | windowOpen | windowClose | windowLock | logPop | logClear | portDisable | portEnable | warmReset | windowWrite
  | portRightsWrite | favouredWrite | combineWindowWrite | sweepIntervalWrite | sweepRowsWrite | ctrlWriteObject =>
    cases h; simp

/-- Every command but a cold reset and a COMMIT leaves the active table and default target as they are. -/
theorem exec_active {i : Instr} {s t : State} (h : exec i s = .next t) (hr : i ≠ .coldReset) (hc : i ≠ .commit) :
    t.regionMap.active = s.regionMap.active := by
  by_cases hi : i ∈ [Instr.stageFromActive, .regionStagedWrite, .defaultTargetStagedWrite]
  · simp only [List.mem_cons, List.not_mem_nil, or_false] at hi
    obtain rfl | rfl | rfl := hi
    all_goals (cases h; simp)
  · rw [exec_regionMap h (by simp_all)]

/-- A COMMIT leaves the Region Map as it is, or finds the staged table sound and makes it active (R14, R15). -/
theorem exec_commit_regionMap {s t : State} (h : exec .commit s = .next t) :
    t.regionMap = s.regionMap
      ∨ s.regionMap.staged.commitFailure = none
        ∧ t.regionMap = ⟨s.regionMap.staged, s.regionMap.staged, s.regionMap.generation + 1⟩ := by
  cases h
  rw [Event.close_regionMap]
  refine State.serve_regionMap_of (P := fun m => m = s.regionMap ∨ _ ∧ m = _) (.inl rfl) fun p r => ?_
  cases hf : s.regionMap.staged.commitFailure with
  | some f => exact .inl (by rw [serveCommit_of_failure (s := s.select p) hf]; rfl)
  | none => exact .inr ⟨rfl, by rw [serveCommit_of_sound (s := s.select p) hf]; rfl⟩

/-- The table of a cold reset passes the commit checks: it has no valid entry (R12, R19). -/
theorem RegionTable.commitFailure_reset : RegionTable.reset.commitFailure = none := by
  decide

/-- Settles O53: a case split on the command at the front, with `exec_active` for all but the two that may change the table. -/
theorem theActiveTableChangesOnlyByCommit : Obligations.TheActiveTableChangesOnlyByCommit := by
  intro s t hsound hstep
  unfold step at hstep
  split at hstep
  · cases hstep
    exact ⟨hsound, .inl rfl⟩
  · next c rest hp =>
    by_cases hr : c = .coldReset
    · subst hr
      cases hstep
      exact ⟨RegionTable.commitFailure_reset, .inr (.inl ⟨by simp [hp], rfl⟩)⟩
    by_cases hc : c = .commit
    · subst hc
      obtain h | ⟨hok, h⟩ := exec_commit_regionMap hstep
      · exact ⟨by rw [State.ActiveTableSound, h]; exact hsound, .inl (by rw [h])⟩
      · exact ⟨by rw [State.ActiveTableSound, h]; exact hok, .inr (.inr ⟨by simp [hp], hok, by rw [h], by rw [h]⟩)⟩
    · have h : t.regionMap.active = s.regionMap.active := exec_active (s := { s with pending := rest }) hstep hr hc
      exact ⟨by rw [State.ActiveTableSound, h]; exact hsound, .inl h⟩

end Sys2Proof.Machine
end

section
/-! The commit checks and the lookup (chapter 1): the first failing check of an entry and of a table, and what the lowest matching
entry gives. -/

namespace Sys2Proof.Machine

/-! ### The commit checks (R13) -/

/-- The numbered checks of R13 as one statement: the entry is valid and this is its first failing check. -/
def RegionEntry.Fails (e : RegionEntry) (check : Nat) : Prop :=
  e.valid = true
    ∧ (check = 1 ∧ e.limit.toNat < e.base.toNat
      ∨ check = 2 ∧ e.base.toNat ≤ e.limit.toNat ∧ e.target = .memory
        ∧ ¬(0 ≤ (e.base.toNat : Int) + e.offset.toInt ∧ (e.limit.toNat : Int) + e.offset.toInt < 2 ^ 24)
      ∨ check = 3 ∧ e.base.toNat ≤ e.limit.toNat ∧ e.target = .extension
        ∧ ¬(0 ≤ (e.base.toNat : Int) + e.offset.toInt ∧ (e.limit.toNat : Int) + e.offset.toInt < 2 ^ 28))

theorem RegionEntry.failingCheck_eq_some {e : RegionEntry} {check : Nat} :
    e.failingCheck = some check ↔ e.Fails check := by
  unfold RegionEntry.failingCheck RegionEntry.Fails
  cases e.valid with
  | false => simp
  | true =>
    by_cases hr : e.limit.toNat < e.base.toNat
    · simp [hr, Nat.not_le.mpr hr, eq_comm]
    · have hle : e.base.toNat ≤ e.limit.toNat := Nat.not_lt.mp hr
      cases ht : e.target with
      | refuse => simp [hr]
      | memory => simp [hr, hle, and_comm, eq_comm (a := check)]
      | extension => simp [hr, hle, and_comm, eq_comm (a := check)]

theorem RegionEntry.failingCheck_eq_none {e : RegionEntry} : e.failingCheck = none ↔ ∀ check, ¬e.Fails check := by
  simp [Option.eq_none_iff_forall_ne_some, RegionEntry.failingCheck_eq_some]

/-- A valid entry that fails no check has an ordered range that its target space holds after the translation. -/
theorem RegionEntry.range_of_failingCheck_eq_none {e : RegionEntry} (h : e.failingCheck = none) (hv : e.valid = true) :
    (e.target = .memory →
        0 ≤ (e.base.toNat : Int) + e.offset.toInt ∧ (e.limit.toNat : Int) + e.offset.toInt < 2 ^ 24)
      ∧ (e.target = .extension →
        0 ≤ (e.base.toNat : Int) + e.offset.toInt ∧ (e.limit.toNat : Int) + e.offset.toInt < 2 ^ 28) := by
  have hr : e.base.toNat ≤ e.limit.toNat := by
    by_contra hlt
    exact RegionEntry.failingCheck_eq_none.mp h 1 ⟨hv, .inl ⟨rfl, Nat.not_le.mp hlt⟩⟩
  refine ⟨fun ht => ?_, fun ht => ?_⟩
  · by_contra hc
    exact RegionEntry.failingCheck_eq_none.mp h 2 ⟨hv, .inr (.inl ⟨rfl, hr, ht, hc⟩)⟩
  · by_contra hc
    exact RegionEntry.failingCheck_eq_none.mp h 3 ⟨hv, .inr (.inr ⟨rfl, hr, ht, hc⟩)⟩

theorem RegionTable.commitFailure_eq_none {t : RegionTable} :
    t.commitFailure = none ↔ ∀ i : Fin 32, (t.entries[i]).failingCheck = none := by
  simp [RegionTable.commitFailure]

/-- The validation reports the first entry with a failing check, and that check. -/
theorem RegionTable.commitFailure_eq_some {t : RegionTable} {i : Fin 32} {check : Nat} :
    t.commitFailure = some (i, check)
      ↔ (t.entries[i]).failingCheck = some check ∧ ∀ j : Fin 32, j < i → (t.entries[j]).failingCheck = none := by
  unfold RegionTable.commitFailure
  rw [← Fin.findSome?_eq_findSome?_finRange, Fin.findSome?_eq_some_iff]
  simp

/-- Settles O39, from the first failing check of an entry and the first failing entry of a table. -/
theorem commitChecksAreThoseOfTheTable : Obligations.CommitChecksAreThoseOfTheTable := by
  intro t
  refine ⟨?_, fun i check => ?_⟩
  · rw [RegionTable.commitFailure_eq_none]
    exact forall_congr' fun i => RegionEntry.failingCheck_eq_none
  · rw [RegionTable.commitFailure_eq_some, RegionEntry.failingCheck_eq_some]
    exact and_congr_right fun _ => forall₂_congr fun j _ => RegionEntry.failingCheck_eq_none

/-! ### Lookup and translation (R4 to R11) -/

theorem RegionEntry.contains_eq_true {e : RegionEntry} {page : BitVec 28} :
    e.contains page = true ↔ e.valid = true ∧ e.base.toNat ≤ page.toNat ∧ page.toNat ≤ e.limit.toNat := by
  simp [RegionEntry.contains, and_assoc]

theorem RegionTable.matching_eq_some {t : RegionTable} {page : BitVec 28} {i : Fin 32} :
    t.matching page = some i
      ↔ (t.entries[i]).contains page = true ∧ ∀ j : Fin 32, j < i → (t.entries[j]).contains page = false :=
  find?_finRange_eq_some

theorem RegionTable.matching_eq_none {t : RegionTable} {page : BitVec 28} :
    t.matching page = none ↔ ∀ i : Fin 32, (t.entries[i]).contains page = false := by
  simp [RegionTable.matching]

/-- A number that the width holds stays as it is. -/
theorem toNat_ofInt_of_range {w : Nat} {x : Int} (h0 : 0 ≤ x) (h1 : x < 2 ^ w) : ((BitVec.ofInt w x).toNat : Int) = x := by
  rw [BitVec.toNat_ofInt, Int.emod_eq_of_lt h0 (by exact_mod_cast h1), Int.toNat_of_nonneg h0]

/-- In a range whose two ends are translated into `n` pages, every page is, so the translated address stays below `n * 4096`. -/
theorem RegionEntry.translate_range {e : RegionEntry} {a : BitVec 40} {n : Int} (hp : e.contains (pageOf a) = true)
    (hn : 0 ≤ (e.base.toNat : Int) + e.offset.toInt ∧ (e.limit.toNat : Int) + e.offset.toInt < n) :
    0 ≤ e.translate a ∧ e.translate a < n * 4096 := by
  obtain ⟨-, hlo, hhi⟩ := RegionEntry.contains_eq_true.mp hp
  unfold RegionEntry.translate
  omega

/-- A MEMORY entry whose range lies in the memory space gives the exact translated address (R5). -/
theorem RegionEntry.dest_memory {e : RegionEntry} {a : BitVec 40} (hp : e.contains (pageOf a) = true)
    (ht : e.target = .memory)
    (hn : 0 ≤ (e.base.toNat : Int) + e.offset.toInt ∧ (e.limit.toNat : Int) + e.offset.toInt < 2 ^ 24) :
    ∃ b : BitVec 36, e.dest a = some (.memory b) ∧ (b.toNat : Int) = e.translate a := by
  obtain ⟨h0, h1⟩ := RegionEntry.translate_range hp hn
  exact ⟨_, by rw [RegionEntry.dest, ht], toNat_ofInt_of_range h0 h1⟩

/-- An EXTENSION entry whose range lies in the extension space gives the exact translated address (R6). -/
theorem RegionEntry.dest_extension {e : RegionEntry} {a : BitVec 40} (hp : e.contains (pageOf a) = true)
    (ht : e.target = .extension)
    (hn : 0 ≤ (e.base.toNat : Int) + e.offset.toInt ∧ (e.limit.toNat : Int) + e.offset.toInt < 2 ^ 28) :
    ∃ b : BitVec 40, e.dest a = some (.extension b) ∧ (b.toNat : Int) = e.translate a := by
  obtain ⟨h0, h1⟩ := RegionEntry.translate_range hp hn
  exact ⟨_, by rw [RegionEntry.dest, ht], toNat_ofInt_of_range h0 h1⟩

/-- The verdict of an entry that is not REFUSE is its access flag for the port and direction (R10). -/
theorem RegionEntry.verdict_of_ne_refuse {e : RegionEntry} (ht : e.target ≠ .refuse) (p : Port) (isWrite : Bool) :
    e.verdict p isWrite
      = if (if isWrite = true then e.write.get p else e.read.get p) = true then .permitted else .refused := by
  unfold RegionEntry.verdict
  split
  · contradiction
  · cases isWrite <;> rfl
  · cases isWrite <;> rfl

theorem RegionMap.lookup_of_matching {m : RegionMap} {a : BitVec 40} {i : Fin 32}
    (h : m.active.matching (pageOf a) = some i) (p : Port) (isWrite privileged : Bool) :
    m.lookup p a isWrite privileged =
      ⟨(m.active.entries[i]).dest a, .entry i, (m.active.entries[i]).combineOut, m.generation,
        (m.active.entries[i]).verdict p isWrite, privileged⟩ := by
  rw [RegionMap.lookup, h]

theorem RegionMap.lookup_of_no_matching {m : RegionMap} {a : BitVec 40} (h : m.active.matching (pageOf a) = none) (p : Port)
    (isWrite privileged : Bool) :
    m.lookup p a isWrite privileged =
      match m.active.default with
      | .refuse => ⟨none, .default, false, m.generation, .noTarget, privileged⟩
      | .extension => ⟨some (.extension a), .default, false, m.generation, .permitted, privileged⟩ := by
  cases hd : m.active.default <;> simp [RegionMap.lookup, h, hd]

/-- Settles O22: the search finds the lowest entry that holds the page, and a checked range is translated without wrapping. -/
theorem theLowestMatchingEntryDecides : Obligations.TheLowestMatchingEntryDecides := by
  intro m p addr isWrite privileged hsound
  refine ⟨fun i hi hlow => ?_, fun hnone => ?_⟩
  · have hp : (m.active.entries[i]).contains (pageOf addr) = true := RegionEntry.contains_eq_true.mpr hi
    have hm : m.active.matching (pageOf addr) = some i := RegionTable.matching_eq_some.mpr
      ⟨hp, fun j hj => Bool.eq_false_iff.mpr (mt RegionEntry.contains_eq_true.mp (hlow j hj))⟩
    obtain ⟨hmem, hext⟩ :=
      RegionEntry.range_of_failingCheck_eq_none (RegionTable.commitFailure_eq_none.mp hsound i) hi.1
    rw [RegionMap.lookup_of_matching hm]
    refine ⟨rfl, rfl, rfl, fun ht => ⟨?_, ?_, ?_⟩, fun ht => ⟨?_, ?_, ?_⟩, fun ht => ⟨?_, ?_, ?_⟩⟩
    · rw [RegionEntry.dest, ht]
    · rw [RegionEntry.verdict, ht]
    · rw [RegionEntry.combineOut, ht]
    · exact RegionEntry.dest_memory hp ht (hmem ht)
    · rw [RegionEntry.combineOut, ht]
    · exact RegionEntry.verdict_of_ne_refuse (by rw [ht]; decide) p isWrite
    · exact RegionEntry.dest_extension hp ht (hext ht)
    · rw [RegionEntry.combineOut, ht]
    · exact RegionEntry.verdict_of_ne_refuse (by rw [ht]; decide) p isWrite
  · exact RegionMap.lookup_of_no_matching (RegionTable.matching_eq_none.mpr fun i =>
      Bool.eq_false_iff.mpr (mt RegionEntry.contains_eq_true.mp (hnone i))) p isWrite privileged

end Sys2Proof.Machine
end

section
/-! The Engine's services of the Region Map, from the request to the end of its event: COMMIT, STAGE_FROM_ACTIVE and the writes of
the staged table (R2, R9, R13 to R17). -/

namespace Sys2Proof.Machine

open Sys2Proof.Word64 (field)

/-- A service that replaces the Region Map and nothing else, to the end of its event. -/
theorem State.close_serve_regionMap {s : State} {p : Port} {r : Request} {row : CtrlRow} (h : s.Serves p r row)
    {service : Port → Request → State → Served} {m : RegionMap} {st : Status} {v : Word64}
    (hv : service p r (s.select p) = { state := { s.select p with regionMap := m }, status := st, value := v }) :
    Event.close (s.serve row service) = State.afterService { s with regionMap := m } p r st v := by
  rw [State.close_serve h service (by rw [hv]), hv]
  rfl

/-- A service that changes nothing, to the end of its event. -/
theorem State.close_serve_unchanged {s : State} {p : Port} {r : Request} {row : CtrlRow} (h : s.Serves p r row)
    {service : Port → Request → State → Served} {st : Status} {v : Word64}
    (hv : service p r (s.select p) = { state := s.select p, status := st, value := v }) :
    Event.close (s.serve row service) = s.afterService p r st v :=
  State.close_serve_regionMap (m := s.regionMap) h hv

/-- Settles O38: the two cases of the COMMIT service, each to the end of its event. -/
theorem commitsPublishOrReject : Obligations.CommitsPublishOrReject := by
  intro s p r hs
  refine ⟨fun hok => ?_, fun i check hf => ?_⟩
  · exact congrArg Host.Outcome.next (State.close_serve_regionMap hs (serveCommit_of_sound (s := s.select p) hok p r))
  · exact congrArg Host.Outcome.next (State.close_serve_unchanged hs (serveCommit_of_failure (s := s.select p) hf p r))

/-! ### The words of a staged entry and the staged default target -/

theorem RegionTarget.ofCode_code (t : RegionTarget) : RegionTarget.ofCode t.code = some t := by
  cases t <;> rfl

/-- A range word with no unused bit set that names a target replaces the fields of word 0 (R2). -/
theorem RegionEntry.withWord0_of_encodes {e : RegionEntry} {v : Word64} {t : RegionTarget} (ht : field v 56 2 = t.code)
    (hu : field v 59 4 = 0) :
    e.withWord0 v = some { e with
      valid := v.getLsbD 63, base := field v 0 28, limit := field v 28 28, target := t, combine := v.getLsbD 58 } := by
  simp [RegionEntry.withWord0, ht, hu, RegionTarget.ofCode_code, flagAt]

theorem RegionEntry.withWord0_of_not_encodes {e : RegionEntry} {v : Word64} (h : field v 56 2 = 3 ∨ field v 59 4 ≠ 0) :
    e.withWord0 v = none := by
  unfold RegionEntry.withWord0
  obtain h | h := h
  · rw [h]
    split <;> rfl
  · rw [if_pos h]

/-- The offset field that R2 excludes, as a signed number. -/
theorem offset_eq_intMin_iff (x : BitVec 29) : x = BitVec.intMin 29 ↔ x.toInt = -2 ^ 28 := by
  rw [← BitVec.toInt_inj]
  rfl

/-- A rights word with no unused bit set and an offset in range replaces the fields of word 1 (R2). -/
theorem RegionEntry.withWord1_of_encodes {e : RegionEntry} {v : Word64} (h8 : field v 8 24 = 0) (h61 : field v 61 3 = 0)
    (ho : (field v 32 29).toInt ≠ -2 ^ 28) :
    e.withWord1 v = some { e with
      read := ⟨v.getLsbD 0, v.getLsbD 1, v.getLsbD 2, v.getLsbD 3⟩
      write := ⟨v.getLsbD 4, v.getLsbD 5, v.getLsbD 6, v.getLsbD 7⟩
      offset := field v 32 29 } := by
  unfold RegionEntry.withWord1
  rw [if_neg (by simp [h8, h61, mt (offset_eq_intMin_iff _).mp ho])]
  rfl

theorem RegionEntry.withWord1_of_not_encodes {e : RegionEntry} {v : Word64}
    (h : field v 8 24 ≠ 0 ∨ field v 61 3 ≠ 0 ∨ (field v 32 29).toInt = -2 ^ 28) : e.withWord1 v = none := by
  unfold RegionEntry.withWord1
  rw [if_pos (by rwa [offset_eq_intMin_iff])]

theorem DefaultTarget.ofValue_value (t : DefaultTarget) : DefaultTarget.ofValue t.value = some t := by
  cases t <;> rfl

theorem DefaultTarget.ofValue_of_not_encodes {v : Word64} (h0 : v ≠ 0) (h2 : v ≠ 2) : DefaultTarget.ofValue v = none := by
  rw [DefaultTarget.ofValue, if_neg h0, if_neg h2]

/-! ### The services -/

/-- The word that a request's index and value give an entry: its range word at an even index, its rights word at an odd one (R2). -/
def RegionEntry.withWordOf (e : RegionEntry) (r : Request) : Option RegionEntry :=
  if r.index % 2 = 0 then e.withWord0 r.value else e.withWord1 r.value

/-- A write of REGION_STAGED that encodes a word replaces its entry (R2). -/
theorem serveRegionStaged_of_encodes {s : State} {r : Request} {i : Fin 32} {e : RegionEntry} (hi : r.index / 2 = i.val)
    (he : (s.regionMap.staged.entries[i]).withWordOf r = some e) (p : Port) :
    serveRegionStaged p r s =
      { state := { s with regionMap := { s.regionMap with
          staged := { s.regionMap.staged with entries := s.regionMap.staged.entries.set i e } } }
        status := .ok } := by
  have hg : s.regionMap.staged.entries[i.val]? = some s.regionMap.staged.entries[i] := by simp
  unfold RegionEntry.withWordOf at he
  have hset : s.regionMap.staged.entries.setIfInBounds i.val e = s.regionMap.staged.entries.set i e :=
    Vector.ext fun j hj => by rw [Vector.getElem_setIfInBounds, Vector.getElem_set]
  simp only [serveRegionStaged, hi, hg, he, hset, State.withStaged]

/-- A write of REGION_STAGED that encodes no word changes nothing (R2). -/
theorem serveRegionStaged_of_not_encodes {s : State} {r : Request} {i : Fin 32} (hi : r.index / 2 = i.val)
    (he : (s.regionMap.staged.entries[i]).withWordOf r = none) (p : Port) :
    serveRegionStaged p r s = { state := s, status := .invalid } := by
  have hg : s.regionMap.staged.entries[i.val]? = some s.regionMap.staged.entries[i] := by simp
  unfold RegionEntry.withWordOf at he
  simp only [serveRegionStaged, hi, hg, he]

theorem serveDefaultStaged_of_encodes {r : Request} {t : DefaultTarget} (h : r.value = t.value) (p : Port) (s : State) :
    serveDefaultStaged p r s =
      { state := { s with regionMap := { s.regionMap with staged := { s.regionMap.staged with default := t } } }
        status := .ok } := by
  simp [serveDefaultStaged, h, DefaultTarget.ofValue_value, State.withStaged]

theorem serveDefaultStaged_of_not_encodes {r : Request} (h0 : r.value ≠ 0) (h2 : r.value ≠ 2) (p : Port) (s : State) :
    serveDefaultStaged p r s = { state := s, status := .invalid } := by
  simp [serveDefaultStaged, DefaultTarget.ofValue_of_not_encodes h0 h2]

section
variable {s : State} {p : Port} {r : Request}

/-- A REGION_STAGED write that encodes a word, as a command. -/
theorem exec_regionStagedWrite_of_encodes (hs : s.Serves p r .regionStagedWrite) {i : Fin 32} {e : RegionEntry}
    (hi : r.index / 2 = i.val) (he : (s.regionMap.staged.entries[i]).withWordOf r = some e) :
    exec .regionStagedWrite s = .next (State.afterService
      { s with regionMap := { s.regionMap with
        staged := { s.regionMap.staged with entries := s.regionMap.staged.entries.set i e } } } p r .ok 0) :=
  congrArg Host.Outcome.next
    (State.close_serve_regionMap hs (serveRegionStaged_of_encodes (s := s.select p) hi he p))

/-- A REGION_STAGED write that encodes no word, as a command. -/
theorem exec_regionStagedWrite_of_not_encodes (hs : s.Serves p r .regionStagedWrite) {i : Fin 32}
    (hi : r.index / 2 = i.val) (he : (s.regionMap.staged.entries[i]).withWordOf r = none) :
    exec .regionStagedWrite s = .next (s.afterService p r .invalid 0) :=
  congrArg Host.Outcome.next
    (State.close_serve_unchanged hs (serveRegionStaged_of_not_encodes (s := s.select p) hi he p))

end

/-- Settles O40: each service to the end of its event, the writes of REGION_STAGED by the word that the index names. -/
theorem stagedTableChangesAsWritten : Obligations.StagedTableChangesAsWritten := by
  intro s p r
  refine ⟨fun hs => ?_, fun hs i => ⟨fun hi => ?_, fun hi => ?_⟩, fun hs => ⟨fun t ht => ?_, fun h0 h2 => ?_⟩⟩
  · exact congrArg Host.Outcome.next (State.close_serve_regionMap hs rfl)
  · have hdiv : r.index / 2 = i.val := by omega
    have hword (e : RegionEntry) : e.withWordOf r = e.withWord0 r.value := if_pos (by omega)
    refine ⟨fun t ht hu => ?_, fun hbad => ?_⟩
    · exact exec_regionStagedWrite_of_encodes hs hdiv ((hword _).trans (RegionEntry.withWord0_of_encodes ht hu))
    · exact exec_regionStagedWrite_of_not_encodes hs hdiv ((hword _).trans (RegionEntry.withWord0_of_not_encodes hbad))
  · have hdiv : r.index / 2 = i.val := by omega
    have hword (e : RegionEntry) : e.withWordOf r = e.withWord1 r.value := if_neg (by omega)
    refine ⟨fun h8 h61 ho => ?_, fun hbad => ?_⟩
    · exact exec_regionStagedWrite_of_encodes hs hdiv
        ((hword _).trans (RegionEntry.withWord1_of_encodes h8 h61 ho))
    · exact exec_regionStagedWrite_of_not_encodes hs hdiv ((hword _).trans (RegionEntry.withWord1_of_not_encodes hbad))
  · exact congrArg Host.Outcome.next (State.close_serve_regionMap hs (serveDefaultStaged_of_encodes ht p (s.select p)))
  · exact congrArg Host.Outcome.next
      (State.close_serve_unchanged hs (serveDefaultStaged_of_not_encodes h0 h2 p (s.select p)))

end Sys2Proof.Machine
end

section
/-! What software sets up, under the shared operations and the events of traffic, links and timers: it stays as it is. The
Region Map has lemmas of its own above. -/

namespace Sys2Proof.Machine

/-- What only the Engine's services and a cold reset change, beside the Region Map and the ports' rights: the window (chapter 2),
the settings of section 10.2, the Engine's rotation pointer (R159); and the commands that wait (log entry 1). -/
structure Setup where
  pending       : List Instr
  window        : WindowCtl
  watermark     : Nat
  combineWindow : Nat
  timeoutM      : Nat
  timeoutX      : Nat
  favoured      : Option Port
  holdBudget    : Nat
  sweepInterval : Nat
  sweepRows     : Nat
  noticePort    : Port
  noticeEnable  : Bool
  engine        : Port

def State.setup (s : State) : Setup where
  pending := s.pending
  window := s.window
  watermark := s.pwq.watermark
  combineWindow := s.pwq.combineWindow
  timeoutM := s.tracker.timeoutM
  timeoutX := s.tracker.timeoutX
  favoured := s.sched.favoured
  holdBudget := s.sched.holdBudget
  sweepInterval := s.sweep.interval
  sweepRows := s.sweep.rows
  noticePort := s.log.noticePort
  noticeEnable := s.log.noticeEnable
  engine := s.engine

theorem State.window_of_setup {s t : State} (h : t.setup = s.setup) : t.window = s.window := congrArg Setup.window h

/-! ### Shared operations -/

section
variable (s : State)

@[simp] theorem State.modPort_setup (p : Port) (f : PortBlock → PortBlock) : (s.modPort p f).setup = s.setup := rfl
@[simp] theorem State.withPwq_setup (es : List PwqEntry) : (s.withPwq es).setup = s.setup := rfl
@[simp] theorem State.sealWhere_setup (sel : PwqEntry → Bool) : (s.sealWhere sel).setup = s.setup := rfl
@[simp] theorem State.setDtag_setup (d : Fin 8) (x : DtagState) : (s.setDtag d x).setup = s.setup := rfl
@[simp] theorem State.setXtag_setup (t : Fin 8) (x : XtagState) : (s.setXtag t x).setup = s.setup := rfl
@[simp] theorem State.sendM_setup (pkt : Packet) : (s.sendM pkt).setup = s.setup := rfl
@[simp] theorem State.addEntry_setup (p : Port) (tag : BitVec 8) (work : TrackWork) (st : TrackState) :
    (s.addEntry p tag work st).setup = s.setup := rfl
@[simp] theorem State.setEntryState_setup (i : Fin 24) (st : TrackState) : (s.setEntryState i st).setup = s.setup := rfl
@[simp] theorem State.endEntry_setup (e : TrackerEntry) (st : Status) (data : List Byte) :
    (s.endEntry e st data).setup = s.setup := rfl
@[simp] theorem State.endEntries_setup (sel : TrackerEntry → Bool) (st : Status) : (s.endEntries sel st).setup = s.setup := rfl
@[simp] theorem State.shrinkFlushes_setup (gone : Fin 16 → Bool) : (s.shrinkFlushes gone).setup = s.setup := rfl
@[simp] theorem State.releaseHeld_setup (slot : Fin 16) : (s.releaseHeld slot).setup = s.setup := rfl
@[simp] theorem State.countCorrected_setup : s.countCorrected.setup = s.setup := rfl
@[simp] theorem State.orphanPort_setup (p : Port) : (s.orphanPort p).setup = s.setup := rfl

@[simp] theorem State.hand_setup (r : ErrorRecord) : (s.hand r).setup = s.setup := by
  have hlog : (s.log.take r).noticePort = s.log.noticePort ∧ (s.log.take r).noticeEnable = s.log.noticeEnable := by
    unfold ErrorLog.take
    split <;> exact ⟨rfl, rfl⟩
  obtain h | ⟨-, _, h⟩ := s.hand_cases r <;> rw [h] <;> simp [State.setup, hlog]

@[simp] theorem State.handAll_setup (rs : List ErrorRecord) : (s.handAll rs).setup = s.setup := by
  induction rs generalizing s with
  | nil => rfl
  | cons r rs ih => rw [State.handAll_cons, ih, State.hand_setup]

@[simp] theorem Event.close_setup (e : Event) : (Event.close e).setup = e.1.setup := State.handAll_setup _ _

@[simp] theorem Event.record_setup (e : Event) : (Event.record e).setup = e.1.setup := State.handAll_setup _ _

@[simp] theorem answerOwed_setup (st : Status) (is : List (Fin 24)) : (answerOwed st is s).setup = s.setup := by
  induction is generalizing s with
  | nil => rfl
  | cons i is ih =>
    unfold answerOwed
    rw [ih]
    split <;> rfl

@[simp] theorem State.removePwq_setup (e : PwqEntry) (st : Status) (failed : Option RecordKind) :
    (s.removePwq e st failed).1.setup = s.setup := by
  unfold State.removePwq
  simp only [State.releaseHeld_setup, State.shrinkFlushes_setup, answerOwed_setup]
  split <;> rfl

/-! ### Admission (chapter 4) -/

@[simp] theorem State.answerHead_setup (p : Port) (r : Request) (st : Status) : (s.answerHead p r st).1.setup = s.setup := rfl

@[simp] theorem State.dropHead_setup (p : Port) (r : Request) (kind : RecordKind) (c : Option Classification) :
    (s.dropHead p r kind c).1.setup = s.setup := rfl

@[simp] theorem State.waitHead_setup (p : Port) (g : Progress) (c : Option Classification) :
    (s.waitHead p g c).1.setup = s.setup := rfl

/-- A write is taken in by a merge into the tail or by an append (R65). -/
theorem State.takeWrite_cases {s t : State} {p : Port} {a : BitVec 36} {r : Request} {c : Classification}
    {owed : Option (Fin 24)} {slot : Fin 16} (h : s.takeWrite p a r c owed = some (t, slot)) :
    (∃ es, t = s.withPwq es) ∨ ∃ bytes, t = s.appendWrite p (lineOf a) bytes c owed := by
  unfold State.takeWrite at h
  dsimp only at h
  split at h
  · split at h
    · cases h; exact .inl ⟨_, rfl⟩
    · split at h <;> cases h
      exact .inr ⟨_, rfl⟩
  · cases h; exact .inr ⟨_, rfl⟩

theorem State.takeWrite_setup {s t : State} {p : Port} {a : BitVec 36} {r : Request} {c : Classification}
    {owed : Option (Fin 24)} {slot : Fin 16} (h : s.takeWrite p a r c owed = some (t, slot)) : t.setup = s.setup := by
  obtain ⟨_, rfl⟩ | ⟨_, rfl⟩ := State.takeWrite_cases h <;> rfl

@[simp] theorem State.dispatchRead_setup (p : Port) (r : Request) (a : BitVec 36) (c : Classification) :
    (s.dispatchRead p r a c).1.setup = s.setup := by
  unfold State.dispatchRead
  split
  · simp
  · dsimp only
    split <;> simp

@[simp] theorem State.dispatchWrite_setup (p : Port) (r : Request) (a : BitVec 36) (c : Classification) :
    (s.dispatchWrite p r a c).1.setup = s.setup := by
  unfold State.dispatchWrite
  dsimp only
  split
  · simp
  · next h =>
    rw [← State.takeWrite_setup h]
    split <;> simp

@[simp] theorem State.dispatchFlush_setup (p : Port) (r : Request) : (s.dispatchFlush p r).1.setup = s.setup := by
  unfold State.dispatchFlush
  dsimp only
  split <;> simp

@[simp] theorem State.dispatch_setup (p : Port) (r : Request) (c : Classification) :
    (s.dispatch p r c).1.setup = s.setup := by
  unfold State.dispatch
  split
  · split <;> simp
  · simp
  · rfl

@[simp] theorem State.stepAccess_setup (p : Port) (r : Request) (c : Classification) :
    (s.stepAccess p r c).1.setup = s.setup := by
  unfold State.stepAccess
  split
  · split
    · simp
    · split <;> simp
  · split <;> simp
  · split <;> simp

@[simp] theorem State.stepClassify_setup (p : Port) (r : Request) : (s.stepClassify p r).1.setup = s.setup := by
  unfold State.stepClassify
  split <;> simp

@[simp] theorem State.stepRoom_setup (p : Port) (r : Request) : (s.stepRoom p r).1.setup = s.setup := by
  unfold State.stepRoom
  split <;> simp

@[simp] theorem State.stepTag_setup (p : Port) (r : Request) : (s.stepTag p r).1.setup = s.setup := by
  unfold State.stepTag
  split <;> simp

@[simp] theorem State.stepBarrier_setup (p : Port) (r : Request) : (s.stepBarrier p r).1.setup = s.setup := by
  unfold State.stepBarrier
  split <;> simp

@[simp] theorem State.stepMalformed_setup (p : Port) (r : Request) : (s.stepMalformed p r).1.setup = s.setup := by
  unfold State.stepMalformed
  split
  · split <;> simp
  · simp

@[simp] theorem State.stepFormat_setup (p : Port) (r : Request) : (s.stepFormat p r).1.setup = s.setup := by
  unfold State.stepFormat
  split
  · simp
  · split <;> simp

@[simp] theorem State.offerAgain_setup (p : Port) (r : Request) : (s.offerAgain p r).1.setup = s.setup := by
  unfold State.offerAgain
  split
  · split <;> simp
  · rfl

@[simp] theorem State.advance_setup (p : Port) : (s.advance p).1.setup = s.setup := by
  unfold State.advance
  dsimp only
  split
  · split
    · simp
    · split <;> simp
    · split <;> simp
    · simp
    · rfl
    · rfl
  · rfl

/-! ### Links (sections 3.4 and 3.6) -/

@[simp] theorem State.endWaiting_setup (g : Progress) (p : Port) : (s.endWaiting g p).1.setup = s.setup := by
  unfold State.endWaiting
  dsimp only
  split
  · split
    · split <;> simp
    · rfl
  · rfl

@[simp] theorem State.endWaitingAll_setup (g : Progress) (ps : List Port) (e : Event) :
    (State.endWaitingAll g ps e).1.setup = e.1.setup := by
  induction ps generalizing e with
  | nil => rfl
  | cons p ps ih => simp [State.endWaitingAll, ih]

@[simp] theorem State.discardPwq_setup : s.discardPwq.1.setup = s.setup := by
  unfold State.discardPwq
  simp only [State.shrinkFlushes_setup, answerOwed_setup]
  rfl

@[simp] theorem State.loseM_setup : s.loseM.1.setup = s.setup := by
  unfold State.loseM
  rw [State.endWaitingAll_setup]
  exact State.discardPwq_setup _

@[simp] theorem State.loseX_setup : s.loseX.1.setup = s.setup := by
  unfold State.loseX
  rw [State.endWaitingAll_setup]
  rfl

/-! ### The Memory Port Scheduler and the Extension Forwarder (chapters 7 and 9) -/

@[simp] theorem State.issue_setup (d : Fin 8) (w : Winner) : (s.issue d w).setup = s.setup := by
  cases w with
  | port e =>
    unfold State.issue
    dsimp only
    split <;> rfl
  | pwq e => rfl
  | sweep row => rfl

@[simp] theorem State.grant_setup (d : Fin 8) (how : Deciding) (w : Winner) : (s.grant d how w).setup = s.setup :=
  s.issue_setup d w

@[simp] theorem State.arbitrate_setup : s.arbitrate.setup = s.setup := by
  unfold State.arbitrate
  split
  · simp
  · rfl

@[simp] theorem State.grantCredit_setup : s.grantCredit.1.setup = s.setup := by
  unfold State.grantCredit
  split
  · split
    · split
      · rfl
      · split <;> rfl
    · rfl
  · rfl

/-! ### Packets that arrive (chapters 3, 6, 8 and 9) -/

@[simp] theorem State.arrive_setup (p : Port) (r : Request) : (s.arrive p r).1.setup = s.setup := by
  unfold State.arrive
  dsimp only
  split
  · rfl
  · simp
  · split <;> simp

@[simp] theorem State.fromUpstream_setup (p : Port) (pkt : Packet) : (s.fromUpstream p pkt).1.setup = s.setup := by
  unfold State.fromUpstream
  split <;> simp

@[simp] theorem State.takeRead_setup (d : Fin 8) (e : TrackerEntry) (r : MemResp) :
    (s.takeRead d e r).1.setup = s.setup := by
  unfold State.takeRead
  dsimp only
  split <;> simp

@[simp] theorem State.takePwq_setup (d : Fin 8) (e : PwqEntry) (r : MemResp) : (s.takePwq d e r).1.setup = s.setup := by
  unfold State.takePwq
  dsimp only
  split <;> simp

@[simp] theorem State.takeSweep_setup (d : Fin 8) (row : BitVec 20) (r : MemResp) :
    (s.takeSweep d row r).1.setup = s.setup := by
  unfold State.takeSweep
  dsimp only
  split <;> simp

@[simp] theorem State.lateM_setup (d : Fin 8) : (s.lateM d).setup = s.setup := rfl

@[simp] theorem State.unknownM_setup (r : MemResp) : (s.unknownM r).1.setup = s.setup := rfl

@[simp] theorem State.judgeM_setup (r : MemResp) : (s.judgeM r).1.setup = s.setup := by
  unfold State.judgeM
  split
  · rfl
  · split
    · simp
    · simp
    · next n _ =>
      split
      · by_cases hc : r.carries (if r.result.ok then n else 0) = true <;> simp [hc]
      · simp
    · split
      · split <;> simp
      · simp
    · split <;> simp

@[simp] theorem State.fromM_setup (pkt : Packet) : (s.fromM pkt).1.setup = s.setup := by
  unfold State.fromM
  split
  · rfl
  · split <;> simp

@[simp] theorem State.takeX_setup (e : TrackerEntry) (c : XCompletion) : (s.takeX e c).1.setup = s.setup := by
  unfold State.takeX
  dsimp only
  split <;> simp

@[simp] theorem State.lateX_setup (t : Fin 8) : (s.lateX t).setup = s.setup := rfl

@[simp] theorem State.unknownX_setup (c : XCompletion) : (s.unknownX c).1.setup = s.setup := rfl

@[simp] theorem State.judgeX_setup (c : XCompletion) : (s.judgeX c).1.setup = s.setup := by
  unfold State.judgeX
  split
  · rfl
  · split
    · rfl
    · split
      · simp
      · simp
      · split
        · split <;> simp
        · simp

@[simp] theorem State.creditX_setup (n : Nat) : (s.creditX n).1.setup = s.setup := by
  unfold State.creditX
  split <;> rfl

@[simp] theorem State.fromX_setup (pkt : Packet) : (s.fromX pkt).1.setup = s.setup := by
  unfold State.fromX
  split
  · rfl
  · split
    · simp
    · split <;> simp

/-! ### Timers -/

@[simp] theorem State.expirePwq_setup (slot : Fin 16) : (s.expirePwq slot).1.setup = s.setup := by
  unfold State.expirePwq
  split
  · split <;> simp
  · rfl

@[simp] theorem State.staleTag_setup (e : TrackerEntry) (tag : Fin 8) : (s.staleTag e tag).setup = s.setup := by
  unfold State.staleTag
  split <;> simp

@[simp] theorem State.expireEntry_setup (i : Fin 24) : (s.expireEntry i).1.setup = s.setup := by
  unfold State.expireEntry
  split
  · split <;> simp
  · rfl

@[simp] theorem State.expireSweep_setup (d : Fin 8) : (s.expireSweep d).1.setup = s.setup := by
  unfold State.expireSweep
  split <;> simp

@[simp] theorem State.expireSweepTimer_setup : s.expireSweepTimer.1.setup = s.setup := by
  unfold State.expireSweepTimer
  split
  · rfl
  · dsimp only
    split
    · rfl
    · split <;> rfl

end

/-! ### Commands -/

/-- The row of the Engine's services that a command carries out; none for the other events. -/
def CtrlRow.ofCommand : Instr → Option CtrlRow
  | .commit => some .commit
  | .stageFromActive => some .stageFromActive
  | .windowOpen => some .windowOpen
  | .windowClose => some .windowClose
  | .windowLock => some .windowLock
  | .logPop => some .logPop
  | .logClear => some .logClear
  | .portDisable => some .portDisable
  | .portEnable => some .portEnable
  | .warmReset => some .warmReset
  | .regionStagedWrite => some .regionStagedWrite
  | .defaultTargetStagedWrite => some .defaultTargetStagedWrite
  | .windowWrite => some .windowWrite
  | .portRightsWrite => some .portRightsWrite
  | .favouredWrite => some .favouredWrite
  | .combineWindowWrite => some .combineWindowWrite
  | .sweepIntervalWrite => some .sweepIntervalWrite
  | .sweepRowsWrite => some .sweepRowsWrite
  | .ctrlWriteObject => some .object
  | _ => none

theorem CtrlRow.eq_command_of_ofCommand {i : Instr} {row : CtrlRow} (h : CtrlRow.ofCommand i = some row) :
    i = row.command := by
  cases i <;> cases h <;> rfl

/-- The Engine's service of a row. -/
def CtrlRow.service : CtrlRow → Port → Request → State → Served
  | .commit => serveCommit
  | .stageFromActive => serveStageFromActive
  | .windowOpen => serveWindowOpen
  | .windowClose => serveWindowClose
  | .windowLock => serveWindowLock
  | .logPop => serveLogPop
  | .logClear => serveLogClear
  | .portDisable => servePortDisable
  | .portEnable => servePortEnable
  | .warmReset => serveWarmReset
  | .regionStagedWrite => serveRegionStaged
  | .defaultTargetStagedWrite => serveDefaultStaged
  | .windowWrite => serveWindow
  | .portRightsWrite => servePortRights
  | .favouredWrite => serveFavoured
  | .combineWindowWrite => serveCombineWindow
  | .sweepIntervalWrite => serveSweepInterval
  | .sweepRowsWrite => serveSweepRows
  | .object => serveObject

/-- Every command of the Engine is one selection with its row's service (R160). -/
theorem exec_command (row : CtrlRow) (s : State) :
    exec row.command s = .next (Event.close (s.serve row row.service)) := by
  cases row <;> rfl

/-- Every command but a cold reset and the Engine's services leaves what software sets up as it is. -/
theorem exec_setup {i : Instr} {s t : State} (h : exec i s = .next t) (hr : i ≠ .coldReset)
    (hi : CtrlRow.ofCommand i = none) : t.setup = s.setup := by
  cases i with
  | coldReset => contradiction
  | portLinkReady p =>
    change execPortLinkReady p s = _ at h
    unfold execPortLinkReady at h
    split at h <;> cases h <;> rfl
  | portLinkLost p =>
    change execPortLinkLost p s = _ at h
    unfold execPortLinkLost at h
    split at h <;> cases h <;> simp
  | mLinkLost =>
    change execMLinkLost s = _ at h
    unfold execMLinkLost at h
    split at h <;> cases h <;> simp
  | xLinkLost =>
    change execXLinkLost s = _ at h
    unfold execXLinkLost at h
    split at h <;> cases h <;> simp
  | mLinkReady | xLinkReady => cases h; rfl
  | packetOutOfPlace l pkt => cases l <;> cases h <;> simp
  | arrival | admissionAdvance | creditGrant | arbitration | memResp | xCompletion | xCredit | sealTimerExpiry
  | pwqResponseTimerExpiry | responseTimerExpiry | sweepResponseTimerExpiry | sweepTimerExpiry => cases h; simp
  | commit | stageFromActive | windowOpen | windowClose | windowLock | logPop | logClear | portDisable | portEnable
  | warmReset | regionStagedWrite | defaultTargetStagedWrite | windowWrite | portRightsWrite | favouredWrite
  | combineWindowWrite | sweepIntervalWrite | sweepRowsWrite | ctrlWriteObject => cases hi

end Sys2Proof.Machine
end

section
/-! The window under the services of the Control Engine and under a whole step: who may change it, and that nobody changes it once
it is LOCKED (R29). -/

namespace Sys2Proof.Machine

/-! ### Services that do not name the window (chapter 10) -/

@[simp] theorem serveCommit_window (p : Port) (r : Request) (s : State) : (serveCommit p r s).state.window = s.window := by
  unfold serveCommit
  split <;> rfl

@[simp] theorem serveStageFromActive_window (p : Port) (r : Request) (s : State) :
    (serveStageFromActive p r s).state.window = s.window := rfl

@[simp] theorem serveRegionStaged_window (p : Port) (r : Request) (s : State) :
    (serveRegionStaged p r s).state.window = s.window := by
  unfold serveRegionStaged
  dsimp only
  split
  · rfl
  · split <;> rfl

@[simp] theorem serveDefaultStaged_window (p : Port) (r : Request) (s : State) :
    (serveDefaultStaged p r s).state.window = s.window := by
  unfold serveDefaultStaged
  split <;> rfl

@[simp] theorem serveLogPop_window (p : Port) (r : Request) (s : State) : (serveLogPop p r s).state.window = s.window := rfl

@[simp] theorem serveLogClear_window (p : Port) (r : Request) (s : State) : (serveLogClear p r s).state.window = s.window :=
  rfl

@[simp] theorem servePortDisable_window (p : Port) (r : Request) (s : State) :
    (servePortDisable p r s).state.window = s.window := by
  unfold servePortDisable
  split
  · rfl
  · split
    · rfl
    · split <;> rfl

@[simp] theorem servePortEnable_window (p : Port) (r : Request) (s : State) :
    (servePortEnable p r s).state.window = s.window := by
  unfold servePortEnable
  split
  · rfl
  · split <;> rfl

@[simp] theorem servePortRights_window (p : Port) (r : Request) (s : State) :
    (servePortRights p r s).state.window = s.window := by
  unfold servePortRights
  split
  · dsimp only
    split
    · split
      · exact State.window_of_setup (State.advance_setup _ _)
      · rfl
    · rfl
  · rfl

@[simp] theorem serveFavoured_window (p : Port) (r : Request) (s : State) :
    (serveFavoured p r s).state.window = s.window := by
  unfold serveFavoured
  dsimp only
  split
  · rfl
  · split <;> rfl

@[simp] theorem serveCombineWindow_window (p : Port) (r : Request) (s : State) :
    (serveCombineWindow p r s).state.window = s.window := by
  unfold serveCombineWindow
  dsimp only
  split
  · rfl
  · dsimp only
    split <;> rfl

@[simp] theorem serveSweepInterval_window (p : Port) (r : Request) (s : State) :
    (serveSweepInterval p r s).state.window = s.window := by
  unfold serveSweepInterval
  dsimp only
  split <;> rfl

@[simp] theorem serveSweepRows_window (p : Port) (r : Request) (s : State) :
    (serveSweepRows p r s).state.window = s.window := by
  unfold serveSweepRows
  dsimp only
  split <;> rfl

/-- A setting written leaves the window alone: WINDOW is served under a row of its own. -/
theorem State.writeSetting_window {s t : State} {o : Obj} {v : Nat} (h : s.writeSetting o v = some t) :
    t.window = s.window := by
  cases o with
  | holdBudget | watermark | timeoutM | timeoutX | noticeEnable =>
    simp only [State.writeSetting, Option.ite_none_right_eq_some, Option.some.injEq] at h
    rw [← h.2]
  | noticePort =>
    obtain ⟨q, -, rfl⟩ := Option.map_eq_some_iff.mp h
    rfl
  | _ => cases h

@[simp] theorem serveObject_window (p : Port) (r : Request) (s : State) : (serveObject p r s).state.window = s.window := by
  unfold serveObject
  split
  · rfl
  · split
    · split
      · next h => exact State.writeSetting_window h
      · rfl
    · rfl

@[simp] theorem serveWarmReset_window (p : Port) (r : Request) (s : State) :
    (serveWarmReset p r s).state.window = s.window := rfl

/-! ### Services of the window (R23, R28, R31) -/

/-- A window action that asks for the state the window has changes nothing. -/
theorem State.windowTo_same {s : State} {w : WindowState} (h : s.window.state = w) (p : Port) (r : Request) (st : Status) :
    s.windowTo p r w st = { state := s, status := st, value := BitVec.ofNat 64 w.code } := by
  rw [State.windowTo, if_pos h]

/-- A window action that asks for another state enters it and hands over the WINDOW_CHANGE record (R31). -/
theorem State.windowTo_other {s : State} {w : WindowState} (h : s.window.state ≠ w) (p : Port) (r : Request) (st : Status) :
    s.windowTo p r w st =
      { state := { s with window := { s.window with state := w } }
        status := st
        value := BitVec.ofNat 64 w.code
        records := [windowRecord p r w s.regionMap.generation] } := by
  rw [State.windowTo, if_neg h]

theorem serveWindowOpen_of_not_locked {s : State} (h : s.window.state ≠ .locked) (p : Port) (r : Request) :
    serveWindowOpen p r s = s.windowTo p r .opened .ok := by
  unfold serveWindowOpen
  split
  · rfl
  · rfl
  · contradiction

theorem serveWindowOpen_of_locked {s : State} (h : s.window.state = .locked) (p : Port) (r : Request) :
    serveWindowOpen p r s = { state := s, status := .state, value := 2 } := by
  rw [serveWindowOpen, h]
  exact State.windowTo_same h p r .state

theorem serveWindowClose_of_not_locked {s : State} (h : s.window.state ≠ .locked) (p : Port) (r : Request) :
    serveWindowClose p r s = s.windowTo p r .closed .ok := by
  unfold serveWindowClose
  split
  · rfl
  · rfl
  · contradiction

theorem serveWindowClose_of_locked {s : State} (h : s.window.state = .locked) (p : Port) (r : Request) :
    serveWindowClose p r s = { state := s, status := .ok, value := 2 } := by
  rw [serveWindowClose, h]
  exact State.windowTo_same h p r .ok

theorem serveWindowLock_of_locked {s : State} (h : s.window.state = .locked) (p : Port) (r : Request) :
    serveWindowLock p r s = { state := s, status := .ok, value := 2 } :=
  State.windowTo_same h p r .ok

/-- A write of WINDOW outside CLOSED completes STATE (R23). -/
theorem serveWindow_of_not_closed {s : State} (h : s.window.state ≠ .closed) (p : Port) (r : Request) :
    serveWindow p r s = { state := s, status := .state } := by
  unfold serveWindow
  split
  · rfl
  · rfl
  · contradiction

/-- A write of WINDOW in CLOSED by a value that encodes no descriptor in range changes nothing (R23). -/
theorem serveWindow_of_not_encodes {s : State} (h : s.window.state = .closed) {r : Request}
    (hd : WindowDesc.ofWord r.value = none) (p : Port) : serveWindow p r s = { state := s, status := .invalid } := by
  simp only [serveWindow, h, hd]

/-- A write of WINDOW in CLOSED by any other value replaces the descriptor (R23). -/
theorem serveWindow_of_encodes {s : State} (h : s.window.state = .closed) {r : Request} {d : WindowDesc}
    (hd : WindowDesc.ofWord r.value = some d) (p : Port) :
    serveWindow p r s = { state := { s with window := { s.window with desc := d } }, status := .ok } := by
  simp only [serveWindow, h, hd]

/-! ### The LOCKED window (R29) -/

/-- No service changes a LOCKED window. -/
theorem CtrlRow.service_window_of_locked (row : CtrlRow) {s : State} (h : s.window.state = .locked) (p : Port) (r : Request) :
    (row.service p r s).state.window = s.window := by
  cases row with
  | windowOpen => simp [CtrlRow.service, serveWindowOpen_of_locked h]
  | windowClose => simp [CtrlRow.service, serveWindowClose_of_locked h]
  | windowLock => simp [CtrlRow.service, serveWindowLock_of_locked h]
  | windowWrite => simp [CtrlRow.service, serveWindow_of_not_closed (s := s) (by simp [h])]
  | _ => simp [CtrlRow.service]

/-- A service event leaves the window as the service leaves it, and nothing else in it touches the window. -/
theorem State.serve_window {s : State} {row : CtrlRow} {service : Port → Request → State → Served}
    (hs : ∀ p r, (service p r (s.select p)).state.window = s.window) : (s.serve row service).1.window = s.window := by
  obtain ⟨-, h⟩ | ⟨p, r, -, -, ⟨st, -, h⟩ | ⟨-, h⟩⟩ := s.serve_cases row service
  · rw [h]
  · rw [h]; rfl
  · rw [h]; exact hs p r

/-- No command but a cold reset changes a LOCKED window. -/
theorem exec_window_of_locked {i : Instr} {s t : State} (h : exec i s = .next t) (hr : i ≠ .coldReset)
    (hl : s.window.state = .locked) : t.window = s.window := by
  cases hi : CtrlRow.ofCommand i with
  | none => exact State.window_of_setup (exec_setup h hr hi)
  | some row =>
    rw [CtrlRow.eq_command_of_ofCommand hi, exec_command] at h
    cases h
    rw [State.window_of_setup (Event.close_setup _)]
    exact State.serve_window fun p r => row.service_window_of_locked (s := s.select p) hl p r

/-- Settles O54: the step is idle or carries out the front command, which is no cold reset, by `exec_window_of_locked`. -/
theorem theLockedWindowStaysUntilColdReset : Obligations.TheLockedWindowStaysUntilColdReset := by
  intro s t hl hp hstep
  unfold step at hstep
  split at hstep
  · cases hstep; rfl
  · next c rest hc =>
    have hr : c ≠ .coldReset := fun h => hp (by rw [hc, h]; rfl)
    exact exec_window_of_locked (s := { s with pending := rest }) hstep hr hl

end Sys2Proof.Machine
end

section
/-! The window itself: which requests it takes and where it sends them (R24 to R27), the three window actions (R28, R31) and the
write of its descriptor (R23), each from the request to the end of its event. -/

namespace Sys2Proof.Machine

open Sys2Proof.Word64 (field)

/-! ### The Protected Window (R24 to R27) -/

theorem WindowDesc.contains_eq_true {d : WindowDesc} {page : BitVec 28} :
    d.contains page = true ↔ d.base.toNat ≤ page.toNat ∧ page.toNat < d.base.toNat + d.size := by
  simp [WindowDesc.contains]

theorem WindowCtl.takes_eq_true {w : WindowCtl} {page : BitVec 28} {privileged windowRight : Bool} :
    w.takes page privileged windowRight = true
      ↔ (w.desc.base.toNat ≤ page.toNat ∧ page.toNat < w.desc.base.toNat + w.desc.size)
        ∧ (privileged = true ∨ w.state = .opened ∧ windowRight = true) := by
  simp [WindowCtl.takes, WindowDesc.contains_eq_true]

/-- A page of the window range is translated exactly where the window memory lies in the memory space (R27). -/
theorem WindowDesc.toNat_translate {d : WindowDesc} {a : BitVec 40} (hp : d.contains (pageOf a) = true)
    (hm : d.memBase.toNat + d.size ≤ 2 ^ 24) :
    (d.translate a).toNat = (d.memBase.toNat + ((pageOf a).toNat - d.base.toNat)) * 4096 + a.toNat % 4096 := by
  obtain ⟨hlo, hhi⟩ := WindowDesc.contains_eq_true.mp hp
  rw [WindowDesc.translate, BitVec.toNat_ofNat, Nat.mod_eq_of_lt (by omega)]
  omega

theorem State.classify_of_takes {s : State} {p : Port} {r : Request}
    (h : s.window.takes (pageOf r.addr) (r.priv && (s.ports.get p).rights.privilege) (s.ports.get p).rights.window = true) :
    s.classify p r = ⟨some (.memory (s.window.desc.translate r.addr)), .window, false, s.regionMap.generation, .permitted,
      r.priv && (s.ports.get p).rights.privilege⟩ :=
  if_pos h

theorem State.classify_of_not_takes {s : State} {p : Port} {r : Request}
    (h : ¬s.window.takes (pageOf r.addr) (r.priv && (s.ports.get p).rights.privilege) (s.ports.get p).rights.window = true) :
    s.classify p r
      = s.regionMap.lookup p r.addr (r.kind == .write) (r.priv && (s.ports.get p).rights.privilege) :=
  if_neg h

/-- Settles O21: the window's test is the statement's condition, and a page it takes is translated without wrapping. -/
theorem theWindowTakesWhatItsTableSays : Obligations.TheWindowTakesWhatItsTableSays := by
  intro p r s
  refine ⟨fun htakes hm => ?_, fun htakes => ?_⟩
  · obtain ⟨hrange, -⟩ := id htakes
    have hpage := WindowDesc.contains_eq_true.mpr hrange
    exact ⟨_, WindowDesc.toNat_translate hpage hm, State.classify_of_takes (WindowCtl.takes_eq_true.mpr htakes)⟩
  · exact State.classify_of_not_takes (mt WindowCtl.takes_eq_true.mp htakes)

/-! ### Window actions (R28, R31) -/

section
variable {s : State} {p : Port} {r : Request} {row : CtrlRow} {service : Port → Request → State → Served}

/-- A service that replaces the window and nothing else, with the records it hands over, to the end of its event. -/
theorem State.close_serve_window (h : s.Serves p r row) {w : WindowCtl} {st : Status} {v : Word64} {rs : List ErrorRecord}
    (hv : service p r (s.select p)
      = { state := { s.select p with window := w }, status := st, value := v, records := rs }) :
    Event.close (s.serve row service) = State.handAll (State.afterService { s with window := w } p r st v) rs := by
  rw [State.close_serve h service (by rw [hv]), hv]
  rfl

/-- A window action that enters another state, to the end of its event (R28, R31). -/
theorem State.close_serve_windowTo_other (h : s.Serves p r row) {w : WindowState} (hw : s.window.state ≠ w)
    (hv : service p r (s.select p) = (s.select p).windowTo p r w .ok) :
    Event.close (s.serve row service)
      = State.hand (State.afterService { s with window := { s.window with state := w } } p r .ok (BitVec.ofNat 64 w.code))
          (windowRecord p r w s.regionMap.generation) :=
  State.close_serve_window h (hv.trans (State.windowTo_other (s := s.select p) hw p r .ok))

/-- A window action that asks for the state the window has, to the end of its event (R28). -/
theorem State.close_serve_windowTo_same (h : s.Serves p r row) {w : WindowState} (hw : s.window.state = w)
    (hv : service p r (s.select p) = (s.select p).windowTo p r w .ok) :
    Event.close (s.serve row service) = s.afterService p r .ok (BitVec.ofNat 64 w.code) :=
  State.close_serve_unchanged h (hv.trans (State.windowTo_same (s := s.select p) hw p r .ok))

end

/-- Settles O41: each action in each window state, to the end of its event. -/
theorem windowActionsFollowTheirTable : Obligations.WindowActionsFollowTheirTable := by
  intro s p r
  refine ⟨fun hs => ⟨fun hw => ?_, fun hw => ?_, fun hw => ?_⟩, fun hs => ⟨fun hw => ?_, fun hw => ?_, fun hw => ?_⟩,
    fun hs => ⟨fun hw => ?_, fun hw => ?_⟩⟩
  all_goals refine congrArg Host.Outcome.next ?_
  · exact State.close_serve_windowTo_other hs (by simp [hw])
      (serveWindowOpen_of_not_locked (s := s.select p) (by simp [hw]) p r)
  · exact State.close_serve_windowTo_same hs hw (serveWindowOpen_of_not_locked (s := s.select p) (by simp [hw]) p r)
  · exact State.close_serve_unchanged hs (serveWindowOpen_of_locked (s := s.select p) hw p r)
  · exact State.close_serve_windowTo_same hs hw (serveWindowClose_of_not_locked (s := s.select p) (by simp [hw]) p r)
  · exact State.close_serve_windowTo_other hs (by simp [hw])
      (serveWindowClose_of_not_locked (s := s.select p) (by simp [hw]) p r)
  · exact State.close_serve_unchanged hs (serveWindowClose_of_locked (s := s.select p) hw p r)
  · exact State.close_serve_windowTo_other hs hw rfl
  · exact State.close_serve_unchanged hs (serveWindowLock_of_locked (s := s.select p) hw p r)

/-! ### Writes of WINDOW (R23) -/

/-- A selected request that fails a check completes with its status and value 0, to the end of its event (R161). -/
theorem State.close_serve_of_check {s : State} {p : Port} {r : Request} {row : CtrlRow} (h : s.Selects p r row) {st : Status}
    (hc : r.checks (s.ports.get p).rights = some st) (service : Port → Request → State → Served) :
    Event.close (s.serve row service) = s.afterService p r st 0 := by
  obtain ⟨hn, hw, hr⟩ := h
  have hserve : s.serve row service = ({ state := s.select p, status := st } : Served).reply p r.tag := by
    simp [State.serve, hw, hr, hc]
  rw [hserve, Served.close_reply _ hn (State.engineWinner_head hw).1 rfl]
  rfl

/-- The requests of the row WINDOW_WRITE are the CTRL_WRITEs of object 6 (section 10.2). -/
theorem Request.windowWrite_of_row {r : Request} (h : r.row = .windowWrite) : r.kind = .ctrlWrite ∧ r.code = 6 := by
  unfold Request.row at h
  split at h
  · unfold CtrlRow.ofAction at h
    split at h <;> cases h
  · next hk =>
    unfold CtrlRow.ofWrite at h
    split at h <;> cases h
    exact ⟨hk, by assumption⟩
  all_goals cases h

/-- A write of WINDOW with the management right fails the checks at an index other than 0 alone (R161, R23). -/
theorem Request.checks_windowWrite {r : Request} (h : r.row = .windowWrite) {rights : Rights}
    (hm : rights.management = true) : r.checks rights = if r.index = 0 then none else some .invalid := by
  obtain ⟨hk, hc⟩ := Request.windowWrite_of_row h
  by_cases hi : r.index = 0 <;>
    simp [Request.checks, hm, hk, hc, Obj.ofCode, Obj.readOnly, Obj.indices, hi, Nat.one_le_iff_ne_zero]

/-- The descriptor that the fields of a value spell (section 3.7). -/
def WindowDesc.ofFields (v : Word64) : WindowDesc where
  base := field v 0 28
  size := (field v 28 9).toNat
  memBase := field v 40 24

/-- The values that encode no descriptor: an unused bit set, a size above 256, or a range that leaves its space (R23). -/
abbrev WindowDesc.BadWord (v : Word64) : Prop :=
  let d := WindowDesc.ofFields v
  field v 37 3 ≠ 0 ∨ 256 < d.size ∨ 1 ≤ d.size ∧ 2 ^ 28 < d.base.toNat + d.size
    ∨ 1 ≤ d.size ∧ 2 ^ 24 < d.memBase.toNat + d.size

theorem WindowDesc.ofWord_of_bad {v : Word64} (h : WindowDesc.BadWord v) : WindowDesc.ofWord v = none := by
  obtain hu | hs | hb | hm := h <;> unfold WindowDesc.ofWord <;> dsimp only [WindowDesc.ofFields] at *
  · rw [if_pos (.inl hu)]
  · rw [if_pos (.inr hs)]
  · rw [if_pos (show _ ∧ 2 ^ 28 - 1 < _ by omega), ite_self]
  · rw [if_pos (show _ ∧ 2 ^ 24 - 1 < _ by omega), ite_self, ite_self]

theorem WindowDesc.ofWord_of_not_bad {v : Word64} (h : ¬WindowDesc.BadWord v) :
    WindowDesc.ofWord v = some (WindowDesc.ofFields v) := by
  obtain ⟨hu, hs, hb, hm⟩ := by simpa only [WindowDesc.BadWord, WindowDesc.ofFields, not_or] using h
  unfold WindowDesc.ofWord
  rw [if_neg (not_or_intro hu hs), if_neg (by omega), if_neg (by omega)]
  rfl

/-- Settles O42: the index by the Engine's checks, then the window state and the value by the service. -/
theorem windowWritesReplaceTheDescriptor : Obligations.WindowWritesReplaceTheDescriptor := by
  intro s p r hs hm
  obtain ⟨-, -, hrow⟩ := id hs
  have hchecks := Request.checks_windowWrite hrow hm
  have hserves (hi : r.index = 0) : s.Serves p r .windowWrite := ⟨hs, by rw [hchecks, if_pos hi]⟩
  refine ⟨fun hi => ?_, fun hi hw => ?_, fun hi hw hbad => ?_, fun hi hw hok => ?_⟩
  all_goals refine congrArg Host.Outcome.next ?_
  · exact State.close_serve_of_check hs (by rw [hchecks, if_neg hi]) serveWindow
  · exact State.close_serve_unchanged (hserves hi) (serveWindow_of_not_closed (s := s.select p) hw p r)
  · exact State.close_serve_unchanged (hserves hi)
      (serveWindow_of_not_encodes (s := s.select p) hw (WindowDesc.ofWord_of_bad hbad) p)
  · exact State.close_serve_window (rs := []) (hserves hi)
      (serveWindow_of_encodes (s := s.select p) hw (WindowDesc.ofWord_of_not_bad hok) p)

end Sys2Proof.Machine
end

section
/-! The advance of a head: which step it starts at (R52), the format table (R54), what becomes of a malformed head (R55), and the
dispatch of a FLUSH (R67). -/

namespace Sys2Proof.Machine

/-! ### The format table (R54) -/

theorem ReqKind.isAccess_iff {k : ReqKind} : k.isAccess = true ↔ k = .read ∨ k = .write := by
  cases k <;> simp [ReqKind.isAccess]

/-- The kinds of R54's table that carry no data are all known kinds but WRITE. -/
theorem ReqKind.ne_write_iff_of_known {k : ReqKind} (hk : ∀ code, k ≠ .unknown code) :
    k ≠ .write ↔ k = .read ∨ k = .flush ∨ k.isControl = true := by
  cases k with
  | unknown code => exact absurd rfl (hk code)
  | read | write | flush | ctrlRead | ctrlWrite | ctrlAction => simp [ReqKind.isControl]

theorem Request.posted_eq_true_iff {r : Request} : r.posted = true ↔ r.kind = .write ∧ r.ack = false := by
  simp [Request.posted]

/-- A request of a known kind that is no posted write uses its tag (R35). -/
theorem Request.posted_eq_false_iff_of_known {r : Request} (hk : ∀ code, r.kind ≠ .unknown code) :
    r.posted = false
      ↔ r.kind = .read ∨ r.kind = .flush ∨ r.kind.isControl = true ∨ r.kind = .write ∧ r.ack = true := by
  have hw := ReqKind.ne_write_iff_of_known hk
  rw [← Bool.not_eq_true, Request.posted_eq_true_iff]
  by_cases h : r.kind = .write
  · simp [h, ReqKind.isControl]
  · simpa [h] using hw

theorem Request.malformed_of_unknown {r : Request} {code : BitVec 4} (hk : r.kind = .unknown code) :
    r.malformed = true := by
  simp [Request.malformed, hk]

/-- For a known kind the first row of the format table never holds, and the others stand as the model tests them. -/
theorem Request.malformed_iff_of_known {r : Request} (hk : ∀ code, r.kind ≠ .unknown code) :
    r.malformed = true ↔
      (r.posted = false ∧ 15 < r.tag.toNat)
        ∨ (r.kind.isAccess = true ∧ (r.length = 0 ∨ 64 < r.length))
        ∨ (r.kind.isAccess = true ∧ 64 < r.addr.toNat % 64 + r.length)
        ∨ (r.kind = .write ∧ r.data.length ≠ r.length)
        ∨ (r.kind ≠ .write ∧ r.data ≠ [])
        ∨ ((r.kind = .ctrlWrite ∨ r.kind = .ctrlAction) ∧ r.word1 = none)
        ∨ ((r.kind.isAccess = true ∨ r.kind = .flush ∨ r.kind = .ctrlRead) ∧ r.word1 ≠ none) := by
  unfold Request.malformed
  split
  · next code h => exact absurd h (hk code)
  · simp [or_assoc, Option.isSome_iff_ne_none]

/-- Settles O12: an unknown kind is malformed by the first row; for a known kind each row names the kinds that the model's test
admits. -/
theorem malformedRequestsAreThoseOfTheTable : Obligations.MalformedRequestsAreThoseOfTheTable := by
  intro r
  by_cases hu : ∃ code, r.kind = .unknown code
  · obtain ⟨code, hcode⟩ := id hu
    exact iff_of_true (Request.malformed_of_unknown hcode) (.inl hu)
  · have hk : ∀ code, r.kind ≠ .unknown code := not_exists.mp hu
    rw [Request.malformed_iff_of_known hk, Request.posted_eq_false_iff_of_known hk, ReqKind.ne_write_iff_of_known hk,
      ReqKind.isAccess_iff, or_iff_right hu]
    simp only [or_assoc]

/-! ### Where an advance starts (R51, R52) -/

section
variable {s : State} {p : Port} {r : Request}

theorem State.advance_of_examine (h : s.HeadAt p r .examine) : s.advance p = s.stepFormat p r := by
  obtain ⟨-, hup, hhead, hg⟩ := h
  obtain ⟨rest, hi⟩ := State.ingress_of_head hhead
  simp [State.advance, hup, hi, hg]

/-- A released barrier lets the head go on as if it had just been examined (R55, R57). -/
theorem State.advance_of_waitBarrier (h : s.HeadAt p r .waitBarrier) (hb : (s.ports.get p).barrier = false) :
    s.advance p = s.stepFormat p r := by
  obtain ⟨-, hup, hhead, hg⟩ := h
  obtain ⟨rest, hi⟩ := State.ingress_of_head hhead
  simp [State.advance, hup, hi, hg, hb]

theorem State.advance_of_waitRoom (h : s.HeadAt p r .waitRoom) (hr : s.RoomFor p) : s.advance p = s.stepClassify p r := by
  obtain ⟨-, hup, hhead, hg⟩ := h
  obtain ⟨rest, hi⟩ := State.ingress_of_head hhead
  simp [State.advance, hup, hi, hg, State.room_eq_true.mpr hr]

/-! ### Malformed heads (R53, R55) -/

theorem State.stepFormat_of_malformed (hm : r.malformed = true) : s.stepFormat p r = s.stepMalformed p r :=
  if_pos hm

/-- Settles O13: where the advance starts, then the one branch of R55 that the head takes, to the end of its event. -/
theorem malformedHeadsAreAnsweredOrDropped : Obligations.MalformedHeadsAreAnsweredOrDropped := by
  intro p r s hm
  refine ⟨fun hp h => ?_, fun hp h hb => ?_, fun hp h hb => ?_⟩
  all_goals refine congrArg Host.Outcome.next ?_
  · obtain ⟨hn, hup, -, -⟩ := id h
    have hstep : s.stepMalformed p r = s.answerHead p r .malformed := by simp [State.stepMalformed, hp]
    rw [State.advance_of_examine h, State.stepFormat_of_malformed hm, hstep, Event.close_answerHead hn hup]
    rfl
  · have hadv : s.advance p = s.stepFormat p r :=
      h.elim State.advance_of_examine fun h => State.advance_of_waitBarrier h hb
    obtain ⟨hn, hup⟩ : s.NothingOwed ∧ (s.ports.get p).state = .up :=
      h.elim (fun ⟨hn, hup, _⟩ => ⟨hn, hup⟩) fun ⟨hn, hup, _⟩ => ⟨hn, hup⟩
    have hstep : s.stepMalformed p r = s.dropHead p r .malformed none := by simp [State.stepMalformed, hp, hb]
    rw [hadv, State.stepFormat_of_malformed hm, hstep, Event.close_dropHead hn hup]
    rfl
  · obtain ⟨hn, -, -, -⟩ := id h
    have hstep : s.stepMalformed p r = s.waitHead p .waitBarrier none := by simp [State.stepMalformed, hp, hb]
    rw [State.advance_of_examine h, State.stepFormat_of_malformed hm, hstep, Event.close_waitHead hn]

/-! ### Past step 5 (R56 to R60) -/

/-- A READ, WRITE or FLUSH that passes steps 1 to 5 goes on at step 6. -/
theorem State.stepFormat_of_passes (hk : r.kind.isAccess = true ∨ r.kind = .flush) (hm : r.malformed = false)
    (hb : (s.ports.get p).barrier = false) (hr : r.needsRoom = true → ¬s.TagTaken p r.tag ∧ s.RoomFor p) :
    s.stepFormat p r = s.stepClassify p r := by
  have hc : r.kind.isControl = false := by
    obtain hk | hk := hk
    · obtain hk | hk := ReqKind.isAccess_iff.mp hk <;> rw [hk] <;> rfl
    · rw [hk]; rfl
  have htag : (r.needsRoom && s.tagLive p r.tag) = false := by
    by_cases hn : r.needsRoom = true
    · rw [Bool.eq_false_iff.mpr (mt State.tagLive_eq_true.mp (hr hn).1), Bool.and_false]
    · simp [hn]
  have hroom : (r.needsRoom && !s.room p) = false := by
    by_cases hn : r.needsRoom = true
    · rw [State.room_eq_true.mpr (hr hn).2, Bool.not_true, Bool.and_false]
    · simp [hn]
  simp [State.stepFormat, State.stepBarrier, State.stepTag, State.stepRoom, hm, hc, hb, htag, hroom]

/-- The advance of a head that gets past step 5 goes on at step 6, wherever it starts. -/
theorem State.advance_of_passesRoom (h : s.PassesRoom p r) : s.advance p = s.stepClassify p r := by
  obtain ⟨hn, hup, hhead, hk, ⟨hg, hm, hb, hr⟩ | ⟨hg, hr⟩⟩ := h
  · rw [← State.stepFormat_of_passes hk hm hb hr]
    obtain hg | hg := hg
    · exact State.advance_of_examine ⟨hn, hup, hhead, hg⟩
    · exact State.advance_of_waitBarrier ⟨hn, hup, hhead, hg⟩ hb
  · exact State.advance_of_waitRoom ⟨hn, hup, hhead, hg⟩ hr

end

/-! ### FLUSHes (R67) -/

/-- Where nothing was owed, the end of an event that hands over no record and changes one port's block last returns the credits of
the changed block alone. -/
theorem Event.close_modPort {s u : State} (hn : s.NothingOwed) {p : Port} (hu : u.ports = s.ports) {f g : PortBlock → PortBlock}
    (hfg : (f (s.ports.get p)).returnCredits = g (s.ports.get p)) : Event.close (u.modPort p f, []) = u.modPort p g := by
  rw [Event.close_port (p := p) hn (by rw [State.modPort_ports, hu]; rfl), hfg]
  simp [State.modPort, PerPort.mod, hu]

section
variable {b : PortBlock}

/-- A FLUSH that completes and leaves at one event: the flag's completion, then the head's credit. -/
theorem PortBlock.reportFlag_leave_returnCredits (ho : b.owed = 0) (hs : b.state = .up) (tag : BitVec 8) :
    (b.reportFlag tag).leave.returnCredits
      = { b.afterHead [completionPacket tag (if b.postedError = true then .targetError else .ok) none []] with
          postedError := false } := by
  rw [PortBlock.returnCredits_of_owed (by simp [PortBlock.leave])
    (by simp [PortBlock.leave, PortBlock.reportFlag, PortBlock.complete_eq, hs])]
  simp [PortBlock.leave, PortBlock.reportFlag, PortBlock.complete_eq, PortBlock.afterHead, hs, ho]

/-- A FLUSH that leaves and holds the barrier: the head's credit alone. -/
theorem PortBlock.leave_barrier_returnCredits (ho : b.owed = 0) (hs : b.state = .up) :
    PortBlock.returnCredits { b.leave with barrier := true } = { b.afterHead [] with barrier := true } := by
  rw [PortBlock.returnCredits_of_owed (by simp [PortBlock.leave]) (by simp [PortBlock.leave, hs])]
  simp [PortBlock.leave, PortBlock.afterHead, ho]

end

/-- Settles O19: the dispatch's two cases, each to the end of its event. -/
theorem flushesCompleteOrHoldTheBarrier : Obligations.FlushesCompleteOrHoldTheBarrier := by
  intro p r s h hk awaited
  obtain ⟨hn, hup, -⟩ := id h
  have ho := hn.owed_get p
  have hadv : s.advance p = s.dispatchFlush p r := by rw [State.advance_of_passesRoom h, State.stepClassify, if_pos hk]
  refine ⟨fun hempty => ?_, fun hsome => ?_⟩
  all_goals refine congrArg Host.Outcome.next ?_
  · have hd : s.dispatchFlush p r = (s.modPort p fun b => (b.reportFlag r.tag).leave, []) :=
      if_pos (List.isEmpty_iff.mpr hempty)
    rw [hadv, hd]
    exact Event.close_modPort hn rfl (PortBlock.reportFlag_leave_returnCredits ho hup r.tag)
  · have hd : s.dispatchFlush p r
        = (((s.sealWhere (·.contributors.get p)).addEntry p r.tag (.flush awaited) .waiting).modPort p fun b =>
            { b.leave with barrier := true }, []) :=
      if_neg (mt List.isEmpty_iff.mp hsome)
    rw [hadv, hd]
    exact Event.close_modPort hn (by simp) (PortBlock.leave_barrier_returnCredits ho hup)

end Sys2Proof.Machine
end

section
/-! The Posted Write Queue at a dispatch: how a head reaches it (R52, R60 to R62, R68), which entry a READ consults and what becomes
of the READ (R63, R87, R88). -/

namespace Sys2Proof.Machine

/-! ### The bytes of a line (R87, R88) -/

section
variable {l : LineImage} {offset length : Nat}

/-- The line covers a range exactly where every position of it is a byte with its flag set. -/
theorem LineImage.covers_eq_true (ho : offset ≤ l.length) :
    LineImage.covers l offset length = true ↔ ∀ i, i < length → ∃ b, l[offset + i]? = some (some b) := by
  rw [LineImage.covers, Bool.and_eq_true, decide_eq_true_iff, List.all_eq_true]
  constructor
  · rintro ⟨hall, hlen⟩ i hi
    have hin : offset + i < l.length := by omega
    have hmem : l[offset + i] ∈ (l.drop offset).take length :=
      List.mem_of_getElem? (i := i) (by simp [hi, hin])
    obtain ⟨b, hb⟩ := Option.isSome_iff_exists.mp (hall _ hmem)
    exact ⟨b, by rw [List.getElem?_eq_getElem hin, hb]⟩
  · intro h
    refine ⟨fun x hx => ?_, ?_⟩
    · obtain ⟨i, hi⟩ := List.mem_iff_getElem?.mp hx
      rw [List.getElem?_take] at hi
      split at hi
      · next hlt =>
        obtain ⟨b, hb⟩ := h i hlt
        rw [List.getElem?_drop, hb, Option.some_inj] at hi
        rw [← hi, Option.isSome_some]
      · cases hi
    · rcases length with - | n
      · exact ho
      · obtain ⟨b, hb⟩ := h n n.lt_succ_self
        obtain ⟨hin, -⟩ := List.getElem?_eq_some_iff.mp hb
        omega

/-- A range that holds these bytes, each with its flag set, is read as them. -/
theorem LineImage.read_eq {data : List Byte} (hd : ∀ i, i < data.length → l[offset + i]? = some (data[i]?)) :
    LineImage.read l offset data.length = data := by
  refine List.ext_getElem? fun i => ?_
  rw [LineImage.read, List.getElem?_take]
  split
  · next hi =>
    rw [List.getElem?_drop, LineImage.data, List.getElem?_map, hd i hi, List.getElem?_eq_getElem hi]
    rfl
  · next hi => exact (List.getElem?_eq_none (by omega)).symm

end

theorem lineOffset_lt (a : BitVec 36) : lineOffset a < 64 := BitVec.isLt _

/-! ### The entry a READ consults (R71, R76, R87) -/

section
variable {s : State} {older younger : List PwqEntry} {q : PwqEntry}

theorem State.youngest_eq_none {line : BitVec 30} (h : ∀ q ∈ s.pwq.entries, q.line ≠ line) : s.youngest line = none := by
  simpa [State.youngest] using h

theorem State.youngest_eq_some {line : BitVec 30} (he : s.pwq.entries = older ++ q :: younger) (hq : q.line = line)
    (hy : ∀ f ∈ younger, f.line ≠ line) : s.youngest line = some q := by
  have hnone : younger.reverse.find? (·.line = line) = none := by simpa using hy
  simp [State.youngest, he, List.find?_append, hnone, hq]

/-- Sealing by slot seals one entry alone: no other entry of an ordered queue has its slot. -/
theorem State.sealWhere_slot (ho : s.QueueOrdered) (he : s.pwq.entries = older ++ q :: younger) :
    s.sealWhere (·.slot = q.slot) = s.withPwq (older ++ q.seal :: younger) := by
  obtain ⟨-, hpair, -⟩ := ho
  rw [he, List.pairwise_append, List.pairwise_cons] at hpair
  obtain ⟨-, ⟨hyounger, -⟩, holder⟩ := hpair
  have hsame {es : List PwqEntry} (h : ∀ e ∈ es, e.slot ≠ q.slot) :
      es.map (fun e => if decide (e.slot = q.slot) = true then e.seal else e) = es :=
    (List.map_congr_left fun e hmem => by simp [h e hmem]).trans (List.map_id es)
  rw [State.sealWhere, he, List.map_append, List.map_cons,
    hsame fun e hmem => (holder e hmem q List.mem_cons_self).1,
    hsame fun e hmem => (hyounger e hmem).1.symm]
  simp

end

/-! ### Reaching the dispatch to M (R52, R60 to R62, R65, R68) -/

section
variable {s : State} {p : Port} {r : Request} {c : Classification} {a : BitVec 36}

theorem State.ReachesMemory.port_up (h : s.ReachesMemory p r c a) : s.NothingOwed ∧ (s.ports.get p).state = .up := by
  obtain ⟨-, ⟨⟨hn, hup, -⟩, -⟩ | ⟨⟨hn, hup, -⟩, -⟩⟩ := h <;> exact ⟨hn, hup⟩

/-- A permitted access to M whose link is UP dispatches (R61, R62). -/
theorem State.stepAccess_of_memory (hv : c.verdict = .permitted) (hd : c.dest = some (.memory a)) (hl : s.sched.link = .up) :
    s.stepAccess p r c = s.dispatch p r c := by
  have hlink : s.linkOf (.memory a) = .up := hl
  simp [State.stepAccess, hv, hd, hlink]

/-- A head in WAIT_PWQ dispatches with its stored result when the queue and, for an ACK write, the tracker have room (R68). -/
theorem State.advance_of_waitPwq (h : s.HeadAt p r .waitPwq) (hc : (s.ports.get p).cls = some c)
    (hlen : s.pwq.entries.length < 16) (hr : r.posted = true ∨ s.RoomFor p) : s.advance p = s.dispatch p r c := by
  obtain ⟨-, hup, hhead, hg⟩ := h
  obtain ⟨rest, hi⟩ := State.ingress_of_head hhead
  rw [← State.room_eq_true] at hr
  simp [State.advance, hup, hi, hg, State.offerAgain, hc, Config.pwqEntries, hlen, hr]

/-- The advance of a head that reaches the memory dispatches it, whether it comes from step 6 or from WAIT_PWQ. -/
theorem State.advance_of_reachesMemory (h : s.ReachesMemory p r c a) : s.advance p = s.dispatch p r c := by
  obtain ⟨hd, ⟨hpass, hacc, rfl, hv, hl⟩ | ⟨hhead, hc, hlen, hr⟩⟩ := h
  · have hk : r.kind ≠ .flush := fun hk => by rw [hk] at hacc; cases hacc
    rw [State.advance_of_passesRoom hpass, State.stepClassify, if_neg hk, State.stepAccess_of_memory hv hd hl]
  · exact State.advance_of_waitPwq hhead hc hlen hr

theorem State.advance_read_of_reachesMemory (h : s.ReachesMemory p r c a) (hk : r.kind = .read) :
    s.advance p = s.dispatchRead p r a c := by
  obtain ⟨hd, -⟩ := id h
  simp [State.advance_of_reachesMemory h, State.dispatch, hd, hk]

end

/-! ### READs (R63, R87, R88) -/

section
variable {s : State} {p : Port} {r : Request} {c : Classification} {a : BitVec 36} {q : PwqEntry}

/-- No entry of the line: the READ is READY. -/
theorem State.dispatchRead_of_none (h : s.youngest (lineOf a) = none) :
    s.dispatchRead p r a c
      = ((s.addEntry p r.tag (.readM a r.length c.region c.generation) .ready).modPort p (·.leave), []) := by
  simp [State.dispatchRead, h]

/-- The youngest entry holds every byte: the READ completes with them. -/
theorem State.dispatchRead_of_hit (h : s.youngest (lineOf a) = some q)
    (hcov : LineImage.covers q.bytes (lineOffset a) r.length = true) :
    s.dispatchRead p r a c
      = ((s.sealWhere (·.slot = q.slot)).modPort p fun b =>
          (b.complete r.tag .ok none (LineImage.read q.bytes (lineOffset a) r.length)).leave, []) := by
  simp [State.dispatchRead, h, hcov]

/-- The youngest entry lacks a byte: the READ is HELD on it. -/
theorem State.dispatchRead_of_lacking (h : s.youngest (lineOf a) = some q)
    (hcov : ¬LineImage.covers q.bytes (lineOffset a) r.length = true) :
    s.dispatchRead p r a c
      = (((s.sealWhere (·.slot = q.slot)).addEntry p r.tag (.readM a r.length c.region c.generation)
          (.held q.slot)).modPort p (·.leave), []) := by
  simp [State.dispatchRead, h, hcov]

/-- A head that completes and leaves at one event which changed no port before: the completion, then the head's credit. -/
theorem Event.close_complete_leave {u : State} (hn : s.NothingOwed) (hs : (s.ports.get p).state = .up) (hu : u.ports = s.ports)
    (tag : BitVec 8) (st : Status) (v : Option Word64) (data : List Byte) :
    Event.close (u.modPort p fun b => (b.complete tag st v data).leave, [])
      = u.afterHead p [completionPacket tag st v data] := by
  refine Event.close_modPort (g := (·.afterHead [completionPacket tag st v data])) hn hu ?_
  rw [PortBlock.complete_eq, PortBlock.leave_returnCredits (by simp [hn.owed_get p]) (by simp [hs])]
  simp [PortBlock.afterHead, hs]

end

/-- Settles O16: the head reaches the read's dispatch, the youngest entry of the line is found or missing, and its bytes decide. -/
theorem readsAreHitHeldOrReady : Obligations.ReadsAreHitHeldOrReady := by
  intro p r c a s h hk hq
  obtain ⟨hn, hup⟩ := State.ReachesMemory.port_up h
  have hadv := State.advance_read_of_reachesMemory h hk
  refine ⟨fun hnone => congrArg Host.Outcome.next ?_, fun older younger q he hline hyounger => ?_⟩
  · rw [hadv, State.dispatchRead_of_none (State.youngest_eq_none hnone), Event.close_leave hn hup (by simp), State.handAll_nil]
  · have hy := State.youngest_eq_some he hline hyounger
    have hseal := State.sealWhere_slot hq he
    have hlen : q.bytes.length = 64 := by
      obtain ⟨-, -, hall⟩ := hq
      exact (hall q (by simp [he])).2
    have hcovers := LineImage.covers_eq_true (l := q.bytes) (offset := lineOffset a) (length := r.length)
      (by rw [hlen]; exact (lineOffset_lt a).le)
    refine ⟨fun data hdata hbytes => congrArg Host.Outcome.next ?_, fun ⟨i, hi, hlack⟩ => congrArg Host.Outcome.next ?_⟩
    · have hcov := hcovers.mpr fun i hi =>
        ⟨data[i], by rw [hbytes i hi, List.getElem?_eq_getElem]⟩
      have hread : LineImage.read q.bytes (lineOffset a) r.length = data := by
        rw [← hdata] at hbytes ⊢
        exact LineImage.read_eq hbytes
      rw [hadv, State.dispatchRead_of_hit hy hcov, hseal, hread, Event.close_complete_leave hn hup (by simp)]
    · have hcov : ¬LineImage.covers q.bytes (lineOffset a) r.length = true := fun hcov => by
        obtain ⟨b, hb⟩ := hcovers.mp hcov i hi
        exact hlack b hb
      rw [hadv, State.dispatchRead_of_lacking hy hcov, hseal, Event.close_leave hn hup (by simp), State.handAll_nil]

end Sys2Proof.Machine
end

section
/-! The decision of an arbitration (R125): what each of its steps answers, the candidates it chooses from (R98, R72, R79, R124), and
how the hold and the rotation follow it (R127, R128). -/

namespace Sys2Proof.Machine

section
variable {s : State}

/-! ### The candidates (R72, R79, R98, R124) -/

/-- A port's candidate is the first READY memory read of the port in creation order. -/
theorem State.portCandidate_eq_some {p : Port} {e : TrackerEntry} :
    s.portCandidate p = some e ↔
      ∃ older younger, s.tracker.entries = older ++ e :: younger ∧ e.port = p ∧ e.isReadM = true ∧ e.state = .ready
        ∧ ∀ f ∈ older, ¬(f.port = p ∧ f.isReadM = true ∧ f.state = .ready) := by
  simp only [State.portCandidate, List.find?_eq_some_iff_append, Bool.and_eq_true, decide_eq_true_eq, Bool.not_eq_true',
    ← Bool.not_eq_true]
  constructor
  · rintro ⟨⟨⟨hp, hr⟩, hs⟩, older, younger, he, hold⟩
    exact ⟨older, younger, he, hp, hr, hs, fun f hf h => hold f hf ⟨⟨h.1, h.2.1⟩, h.2.2⟩⟩
  · rintro ⟨older, younger, he, hp, hr, hs, hold⟩
    exact ⟨⟨⟨hp, hr⟩, hs⟩, older, younger, he, fun f hf h => hold f hf ⟨h.1.1, h.1.2, h.2⟩⟩

theorem State.port_of_portCandidate {p : Port} {e : TrackerEntry} (h : s.portCandidate p = some e) : e.port = p := by
  obtain ⟨-, -, -, hp, -⟩ := State.portCandidate_eq_some.mp h
  exact hp

theorem PwqEntry.isIssued_of_sealed {q : PwqEntry} (h : q.state = .sealed) : q.isIssued = false := by
  simp [PwqEntry.isIssued, h]

/-- A read holds an entry back while it is live, older, of the entry's line, and still HELD or READY (R79 condition 3). -/
theorem TrackerEntry.holdsBack_eq_false {r : TrackerEntry} {q : PwqEntry} :
    r.holdsBack q = false ↔
      (r.line = some q.line → r.stamp < q.stamp → r.orphan = false → (∀ slot, r.state ≠ .held slot) ∧ r.state ≠ .ready) := by
  unfold TrackerEntry.holdsBack
  cases hs : r.state <;> cases r.orphan <;> simp

theorem State.eligible_eq_true {q : PwqEntry} :
    s.eligible q = true ↔
      q.state = .sealed
        ∧ (∀ f ∈ s.pwq.entries, f.isIssued = true → f.line ≠ q.line)
        ∧ ∀ e ∈ s.tracker.entries, e.line = some q.line → e.stamp < q.stamp → e.orphan = false →
          (∀ slot, e.state ≠ .held slot) ∧ e.state ≠ .ready := by
  simp only [State.eligible, Bool.and_eq_true, beq_iff_eq, List.all_eq_true, Bool.not_eq_true', Bool.and_eq_false_imp,
    beq_eq_false_iff_ne, TrackerEntry.holdsBack_eq_false, and_assoc]

/-- The queue's candidate is its oldest entry that is not ISSUED, when that entry is eligible. -/
theorem State.pwqCandidate_eq_some {q : PwqEntry} :
    s.pwqCandidate = some q ↔
      (∃ older younger, s.pwq.entries = older ++ q :: younger ∧ ∀ f ∈ older, f.isIssued = true) ∧ s.eligible q = true := by
  simp only [State.pwqCandidate, State.nextToIssue, Option.filter_eq_some_iff, List.find?_eq_some_iff_append,
    Bool.not_not]
  constructor
  · rintro ⟨⟨-, h⟩, hq⟩
    exact ⟨h, hq⟩
  · rintro ⟨h, hq⟩
    exact ⟨⟨by simp [PwqEntry.isIssued_of_sealed (State.eligible_eq_true.mp hq).1], h⟩, hq⟩

/-! ### Steps 1 and 6: a full sweep queue, and a sweep when nobody else has a candidate -/

theorem State.decision_of_full {row : BitVec 20} {rest : List (BitVec 20)} (hq : s.sweep.queue = row :: rest)
    (h : 4 ≤ s.sweep.queue.length) : s.decision = some (.fullSweep, .sweep row) := by
  rw [hq] at h
  unfold State.decision
  rw [hq]
  exact if_pos h

/-- While the sweep queue is not full, the favoured port and the others go first and a sweep is what is left. -/
theorem State.decision_of_not_full (h : s.sweep.queue.length < 4) :
    s.decision = s.favouredOrOther.or (s.sweep.queue.head?.map fun row => (.idleSweep, .sweep row)) := by
  unfold State.decision
  cases hq : s.sweep.queue with
  | nil => simp
  | cons row rest =>
    have hlen : ¬Config.sweepRows ≤ rest.length + 1 := Nat.not_le.mpr (by rwa [hq] at h)
    cases s.favouredOrOther <;> simp [hlen]

theorem State.decision_of_favouredOrOther (h : s.sweep.queue.length < 4) {how : Deciding} {w : Winner}
    (hd : s.favouredOrOther = some (how, w)) : s.decision = some (how, w) := by
  rw [State.decision_of_not_full h, hd, Option.some_or]

/-! ### Steps 2 and 3: the favoured port in its hold or at its slot -/

theorem State.favouredOrOther_of_hold {e : TrackerEntry} (hf : s.favouredCandidate = some e) (hh : s.sched.hold.isSome = true) :
    s.favouredOrOther = some (.hold, .port e) := by
  simp [State.favouredOrOther, hf, hh]

theorem State.favouredOrOther_of_slot {e : TrackerEntry} (hf : s.favouredCandidate = some e) (hh : s.sched.hold = none)
    (hs : s.sched.slotCounter = 3) : s.favouredOrOther = some (.slot, .port e) := by
  simp [State.favouredOrOther, hf, hh, hs]

theorem State.favouredOrOther_of_neither
    (h : ¬(s.favouredCandidate.isSome = true ∧ (s.sched.hold.isSome = true ∨ s.sched.slotCounter = 3))) :
    s.favouredOrOther = s.urgentOrRotation := by
  unfold State.favouredOrOther
  cases hf : s.favouredCandidate with
  | none => rfl
  | some e =>
    obtain ⟨hh, hs⟩ := not_or.mp fun hor => h ⟨by simp [hf], hor⟩
    simp [hh, hs]

/-! ### Steps 4 and 5: an urgent queue, then the rotation -/

theorem State.urgentOrRotation_of_urgent {q : PwqEntry} (hq : s.pwqCandidate = some q)
    (hw : s.pwq.watermark ≤ s.pwq.entries.length) : s.urgentOrRotation = some (.urgent, .pwq q) := by
  simp [State.urgentOrRotation, State.urgent, hq, hw]

theorem State.urgentOrRotation_of_not_urgent (h : s.pwqCandidate = none ∨ s.pwq.entries.length < s.pwq.watermark) :
    s.urgentOrRotation = s.rotationWinner.map fun w => (.rotation w.1, w.2) := by
  have hu : s.urgent = false := by
    unfold State.urgent
    obtain h | h := h
    · simp [h]
    · simp [Nat.not_le.mpr h]
  simp [State.urgentOrRotation, hu]

/-- A search along a list answers at the first member that has an answer. -/
theorem findSome?_eq_some_of_takeWhile {α β : Type} [DecidableEq α] {f : α → Option β} {l : List α} {a : α} {b : β} (ha : a ∈ l)
    (hb : f a = some b) (hbefore : ∀ x ∈ l.takeWhile fun x => x ≠ a, f x = none) : l.findSome? f = some b := by
  induction l with
  | nil => cases ha
  | cons x xs ih =>
    by_cases hx : x = a
    · subst hx
      simp [hb]
    · have hnone : f x = none := hbefore x (by simp [hx])
      rw [List.findSome?_cons_of_isNone (by simp [hnone])]
      rw [List.takeWhile_cons_of_pos (by simp [hx])] at hbefore
      exact ih ((List.mem_cons.mp ha).resolve_left (Ne.symm hx)) fun y hy => hbefore y (List.mem_cons_of_mem x hy)

theorem State.rotationWinner_of_first {m : Party} {w : Winner} (hm : m ∈ s.sched.rotation.fromHere) (hw : s.candidate m = some w)
    (hbefore : ∀ m' ∈ s.sched.rotation.fromHere.takeWhile fun m' => m' ≠ m, s.candidate m' = none) :
    s.rotationWinner = some (m, w) :=
  findSome?_eq_some_of_takeWhile hm (by simp [hw]) fun m' h' => by simp [hbefore m' h']

theorem State.rotationWinner_of_none (h : ∀ m, s.candidate m = none) : s.rotationWinner = none := by
  simp [State.rotationWinner, h]

/-! ### The hold and the rotation (R127, R128) -/

/-- One grant of a budget spent: the hold ends with the last one. -/
theorem holdOf_pred (n : Nat) : holdOf (n - 1) = if n ≤ 1 then none else some (n - 1) := by
  simp only [holdOf, Nat.sub_eq_zero_iff_le]

end

/-- Settles O27: the steps of the decision in their order, then the candidates, then the hold and the rotation. -/
theorem theFirstStepThatHoldsDecides : Obligations.TheFirstStepThatHoldsDecides := by
  refine ⟨fun s => ⟨fun row rest hq h => State.decision_of_full hq h, fun hlt => ⟨fun e he hh => ?_, fun e he hh hs => ?_,
    fun hnot => ?_⟩⟩, fun s p => rfl, fun s => rfl, fun s p e => State.portCandidate_eq_some, fun s q => ?_, fun m => ?_⟩
  · exact State.decision_of_favouredOrOther hlt (State.favouredOrOther_of_hold he hh)
  · exact State.decision_of_favouredOrOther hlt (State.favouredOrOther_of_slot he hh hs)
  · have hother : s.favouredOrOther = s.urgentOrRotation := State.favouredOrOther_of_neither hnot
    refine ⟨fun q hq hw => ?_, fun hcalm => ?_⟩
    · exact State.decision_of_favouredOrOther hlt (hother.trans (State.urgentOrRotation_of_urgent hq hw))
    · have hrot := hother.trans (State.urgentOrRotation_of_not_urgent hcalm)
      refine ⟨fun m w hm hw hbefore => ?_, fun hnone => ?_⟩
      · rw [State.rotationWinner_of_first hm hw hbefore] at hrot
        exact State.decision_of_favouredOrOther hlt hrot
      · rw [State.decision_of_not_full hlt, hrot, State.rotationWinner_of_none hnone]
        rfl
  · rw [State.pwqCandidate_eq_some, State.eligible_eq_true]
  · refine ⟨fun n hn => ?_, holdOf_pred _, rfl, rfl, rfl, fun q => ⟨rfl, rfl⟩, rfl, rfl, rfl, rfl, rfl⟩
    rw [Scheduler.holdAfter, hn]
    exact holdOf_pred n

end Sys2Proof.Machine
end

section
/-! The slot counter (R126, R129): which events leave it alone, and what an arbitration makes of it. -/

namespace Sys2Proof.Machine

section
variable (s : State)

/-! ### Records and the end of an event -/

@[simp] theorem State.handAll_sched (rs : List ErrorRecord) : (s.handAll rs).sched = s.sched := by
  obtain ⟨-, -, -, -, -, h, -⟩ := s.handAll_frame rs
  exact h

@[simp] theorem State.handAll_tracker (rs : List ErrorRecord) : (s.handAll rs).tracker = s.tracker := by
  obtain ⟨-, -, -, -, h, -⟩ := s.handAll_frame rs
  exact h

@[simp] theorem Event.close_sched (e : Event) : (Event.close e).sched = e.1.sched := State.handAll_sched _ _

@[simp] theorem Event.close_tracker (e : Event) : (Event.close e).tracker = e.1.tracker := State.handAll_tracker _ _

@[simp] theorem Event.record_sched (e : Event) : (Event.record e).sched = e.1.sched := State.handAll_sched _ _

/-! ### Shared operations -/

@[simp] theorem answerOwed_sched (st : Status) (is : List (Fin 24)) : (answerOwed st is s).sched = s.sched := by
  obtain ⟨-, -, -, -, h, -⟩ := answerOwed_frame st is s
  exact h

@[simp] theorem State.removePwq_sched (e : PwqEntry) (st : Status) (failed : Option RecordKind) :
    (s.removePwq e st failed).1.sched = s.sched := by
  obtain ⟨-, -, -, -, h, -⟩ := s.removePwq_frame e st failed
  exact h

@[simp] theorem State.setDtag_slotCounter (d : Fin 8) (x : DtagState) :
    (s.setDtag d x).sched.slotCounter = s.sched.slotCounter := rfl

/-! ### Admission (chapter 4): it leaves the whole Scheduler alone -/

@[simp] theorem State.answerHead_sched (p : Port) (r : Request) (st : Status) : (s.answerHead p r st).1.sched = s.sched := rfl

@[simp] theorem State.dropHead_sched (p : Port) (r : Request) (kind : RecordKind) (c : Option Classification) :
    (s.dropHead p r kind c).1.sched = s.sched := rfl

@[simp] theorem State.waitHead_sched (p : Port) (g : Progress) (c : Option Classification) :
    (s.waitHead p g c).1.sched = s.sched := rfl

@[simp] theorem State.dispatchRead_sched (p : Port) (r : Request) (a : BitVec 36) (c : Classification) :
    (s.dispatchRead p r a c).1.sched = s.sched := by
  unfold State.dispatchRead
  split
  · simp
  · dsimp only
    split <;> simp

theorem State.takeWrite_sched {s t : State} {p : Port} {a : BitVec 36} {r : Request} {c : Classification}
    {owed : Option (Fin 24)} {slot : Fin 16} (h : s.takeWrite p a r c owed = some (t, slot)) : t.sched = s.sched := by
  obtain ⟨_, rfl⟩ | ⟨_, rfl⟩ := State.takeWrite_cases h <;> rfl

@[simp] theorem State.dispatchWrite_sched (p : Port) (r : Request) (a : BitVec 36) (c : Classification) :
    (s.dispatchWrite p r a c).1.sched = s.sched := by
  unfold State.dispatchWrite
  dsimp only
  split
  · simp
  · next h =>
    rw [← State.takeWrite_sched h]
    split <;> simp

@[simp] theorem State.dispatchFlush_sched (p : Port) (r : Request) : (s.dispatchFlush p r).1.sched = s.sched := by
  unfold State.dispatchFlush
  dsimp only
  split <;> simp

@[simp] theorem State.dispatch_sched (p : Port) (r : Request) (c : Classification) : (s.dispatch p r c).1.sched = s.sched := by
  unfold State.dispatch
  split
  · split <;> simp
  · simp
  · rfl

@[simp] theorem State.stepAccess_sched (p : Port) (r : Request) (c : Classification) :
    (s.stepAccess p r c).1.sched = s.sched := by
  unfold State.stepAccess
  split
  · split
    · simp
    · split <;> simp
  · split <;> simp
  · split <;> simp

@[simp] theorem State.stepClassify_sched (p : Port) (r : Request) : (s.stepClassify p r).1.sched = s.sched := by
  unfold State.stepClassify
  split <;> simp

@[simp] theorem State.stepTag_sched (p : Port) (r : Request) : (s.stepTag p r).1.sched = s.sched := by
  unfold State.stepTag
  split
  · simp
  · unfold State.stepRoom
    split <;> simp

@[simp] theorem State.stepFormat_sched (p : Port) (r : Request) : (s.stepFormat p r).1.sched = s.sched := by
  unfold State.stepFormat
  split
  · unfold State.stepMalformed
    split
    · split <;> simp
    · simp
  · split
    · simp
    · unfold State.stepBarrier
      split <;> simp

@[simp] theorem State.offerAgain_sched (p : Port) (r : Request) : (s.offerAgain p r).1.sched = s.sched := by
  unfold State.offerAgain
  split
  · split <;> simp
  · rfl

@[simp] theorem State.advance_sched (p : Port) : (s.advance p).1.sched = s.sched := by
  unfold State.advance
  dsimp only
  split
  · split
    · simp
    · split <;> simp
    · split <;> simp
    · simp
    · rfl
    · rfl
  · rfl

/-! ### Links and credit grants (section 3.6, chapter 9) -/

@[simp] theorem State.endWaiting_sched (g : Progress) (p : Port) : (s.endWaiting g p).1.sched = s.sched := by
  unfold State.endWaiting
  dsimp only
  split
  · split
    · split <;> simp
    · rfl
  · rfl

@[simp] theorem State.endWaitingAll_sched (g : Progress) (ps : List Port) (e : Event) :
    (State.endWaitingAll g ps e).1.sched = e.1.sched := by
  induction ps generalizing e with
  | nil => rfl
  | cons p ps ih => simp [State.endWaitingAll, ih]

@[simp] theorem State.discardPwq_sched : s.discardPwq.1.sched = s.sched := by
  simp [State.discardPwq]

/-- What the loss of M does to the Scheduler (R48, R133). -/
@[simp] theorem State.loseM_sched :
    s.loseM.1.sched = { s.sched.flip with link := .down, hold := none, out := [] } := by
  simp [State.loseM]

@[simp] theorem State.loseX_sched : s.loseX.1.sched = s.sched := by
  simp [State.loseX]

@[simp] theorem State.grantCredit_sched : s.grantCredit.1.sched = s.sched := by
  unfold State.grantCredit
  split
  · split
    · split
      · rfl
      · split <;> rfl
    · rfl
  · rfl

/-! ### Packets that arrive (chapters 3, 6, 8 and 9) -/

@[simp] theorem State.fromUpstream_sched (p : Port) (pkt : Packet) : (s.fromUpstream p pkt).1.sched = s.sched := by
  unfold State.fromUpstream
  split
  · unfold State.arrive
    dsimp only
    split
    · rfl
    · simp
    · split <;> simp
  · rfl

@[simp] theorem State.takeRead_slotCounter (d : Fin 8) (e : TrackerEntry) (r : MemResp) :
    (s.takeRead d e r).1.sched.slotCounter = s.sched.slotCounter := by
  unfold State.takeRead
  dsimp only
  split <;> simp

@[simp] theorem State.takePwq_slotCounter (d : Fin 8) (e : PwqEntry) (r : MemResp) :
    (s.takePwq d e r).1.sched.slotCounter = s.sched.slotCounter := by
  unfold State.takePwq
  dsimp only
  split <;> simp

@[simp] theorem State.takeSweep_slotCounter (d : Fin 8) (row : BitVec 20) (r : MemResp) :
    (s.takeSweep d row r).1.sched.slotCounter = s.sched.slotCounter := by
  unfold State.takeSweep
  dsimp only
  split <;> simp

@[simp] theorem State.lateM_slotCounter (d : Fin 8) : (s.lateM d).sched.slotCounter = s.sched.slotCounter := rfl

@[simp] theorem State.unknownM_sched (r : MemResp) : (s.unknownM r).1.sched = s.sched := rfl

@[simp] theorem State.judgeM_slotCounter (r : MemResp) : (s.judgeM r).1.sched.slotCounter = s.sched.slotCounter := by
  unfold State.judgeM
  split
  · rfl
  · split
    · simp
    · simp
    · next n _ =>
      split
      · by_cases hc : r.carries (if r.result.ok then n else 0) = true <;> simp [hc]
      · simp
    · split
      · split <;> simp
      · simp
    · split <;> simp

@[simp] theorem State.fromM_slotCounter (pkt : Packet) : (s.fromM pkt).1.sched.slotCounter = s.sched.slotCounter := by
  unfold State.fromM
  split
  · rfl
  · split <;> simp

@[simp] theorem State.takeX_sched (e : TrackerEntry) (c : XCompletion) : (s.takeX e c).1.sched = s.sched := by
  unfold State.takeX
  dsimp only
  split <;> simp

@[simp] theorem State.lateX_sched (t : Fin 8) : (s.lateX t).sched = s.sched := rfl

@[simp] theorem State.unknownX_sched (c : XCompletion) : (s.unknownX c).1.sched = s.sched := rfl

@[simp] theorem State.judgeX_sched (c : XCompletion) : (s.judgeX c).1.sched = s.sched := by
  unfold State.judgeX
  split
  · rfl
  · split
    · rfl
    · split
      · simp
      · simp
      · split
        · split <;> simp
        · simp

@[simp] theorem State.fromX_sched (pkt : Packet) : (s.fromX pkt).1.sched = s.sched := by
  unfold State.fromX
  split
  · rfl
  · split
    · simp
    · split
      · unfold State.creditX
        split <;> rfl
      · simp

/-! ### Timers -/

@[simp] theorem State.expirePwq_slotCounter (slot : Fin 16) :
    (s.expirePwq slot).1.sched.slotCounter = s.sched.slotCounter := by
  unfold State.expirePwq
  split
  · split <;> simp
  · rfl

@[simp] theorem State.staleTag_slotCounter (e : TrackerEntry) (tag : Fin 8) :
    (s.staleTag e tag).sched.slotCounter = s.sched.slotCounter := by
  unfold State.staleTag
  split <;> simp

@[simp] theorem State.expireEntry_slotCounter (i : Fin 24) :
    (s.expireEntry i).1.sched.slotCounter = s.sched.slotCounter := by
  unfold State.expireEntry
  split
  · split <;> simp
  · rfl

@[simp] theorem State.expireSweep_slotCounter (d : Fin 8) :
    (s.expireSweep d).1.sched.slotCounter = s.sched.slotCounter := by
  unfold State.expireSweep
  split <;> simp

@[simp] theorem State.expireSweepTimer_sched : s.expireSweepTimer.1.sched = s.sched := by
  unfold State.expireSweepTimer
  split
  · rfl
  · dsimp only
    split
    · rfl
    · split <;> rfl

/-! ### Services of the Engine (chapter 10) -/

/-- What an event that is no arbitration leaves of the slot counter: its value, or 0 where FAVOURED takes a new value (R130) or the
tracker is emptied by a reset (R136, R171). -/
def State.KeepsSlot (tracker : Tracker) (sched : Scheduler) : Prop :=
  sched.slotCounter = s.sched.slotCounter
    ∨ sched.slotCounter = 0 ∧ (sched.favoured ≠ s.sched.favoured ∨ tracker.entries = [])

theorem State.keepsSlot_of_eq {tracker : Tracker} {sched : Scheduler} (h : sched = s.sched) : s.KeepsSlot tracker sched :=
  .inl (by rw [h])

theorem State.windowTo_sched (p : Port) (r : Request) (w : WindowState) (st : Status) :
    (s.windowTo p r w st).state.sched = s.sched := by
  unfold State.windowTo
  split <;> rfl

theorem State.writeSetting_slotCounter {s t : State} {o : Obj} {v : Nat} (h : s.writeSetting o v = some t) :
    t.sched.slotCounter = s.sched.slotCounter := by
  cases o with
  | holdBudget | watermark | timeoutM | timeoutX | noticeEnable =>
    simp only [State.writeSetting, Option.ite_none_right_eq_some, Option.some.injEq] at h
    rw [← h.2]
  | noticePort =>
    obtain ⟨q, -, rfl⟩ := Option.map_eq_some_iff.mp h
    rfl
  | _ => cases h

theorem serveFavoured_keepsSlot (p : Port) (r : Request) :
    s.KeepsSlot (serveFavoured p r s).state.tracker (serveFavoured p r s).state.sched := by
  unfold serveFavoured
  dsimp only
  split
  · exact .inl rfl
  · split
    · exact .inl rfl
    · next hne => exact .inr ⟨rfl, .inl hne⟩

theorem serveWarmReset_keepsSlot (p : Port) (r : Request) :
    s.KeepsSlot (serveWarmReset p r s).state.tracker (serveWarmReset p r s).state.sched :=
  .inr ⟨rfl, .inr (by simp [serveWarmReset, State.endEntries])⟩

/-- Only a write of FAVOURED and a warm reset change the slot counter, and both set it to 0. -/
theorem CtrlRow.service_keepsSlot (row : CtrlRow) (p : Port) (r : Request) :
    s.KeepsSlot (row.service p r s).state.tracker (row.service p r s).state.sched := by
  cases row with
  | favouredWrite => exact serveFavoured_keepsSlot s p r
  | warmReset => exact serveWarmReset_keepsSlot s p r
  | object =>
    refine .inl ?_
    simp only [CtrlRow.service, serveObject]
    split
    · rfl
    · split
      · split
        · next h => exact State.writeSetting_slotCounter h
        · rfl
      · rfl
  | portRightsWrite =>
    refine s.keepsSlot_of_eq ?_
    simp only [CtrlRow.service, servePortRights]
    split
    · split
      · split <;> simp
      · rfl
    · rfl
  | windowOpen | windowClose =>
    refine s.keepsSlot_of_eq ?_
    simp only [CtrlRow.service, serveWindowOpen, serveWindowClose]
    split <;> exact s.windowTo_sched ..
  | windowLock => exact s.keepsSlot_of_eq (s.windowTo_sched ..)
  | stageFromActive | logPop | logClear => exact .inl rfl
  | commit | defaultTargetStagedWrite | sweepIntervalWrite | sweepRowsWrite =>
    refine s.keepsSlot_of_eq ?_
    simp only [CtrlRow.service, serveCommit, serveDefaultStaged, serveSweepInterval, serveSweepRows]
    split <;> rfl
  | regionStagedWrite | combineWindowWrite | portEnable =>
    refine s.keepsSlot_of_eq ?_
    simp only [CtrlRow.service, serveRegionStaged, serveCombineWindow, servePortEnable]
    split
    · rfl
    · split <;> rfl
  | windowWrite =>
    refine s.keepsSlot_of_eq ?_
    simp only [CtrlRow.service, serveWindow]
    split
    · rfl
    · rfl
    · split <;> rfl
  | portDisable =>
    refine s.keepsSlot_of_eq ?_
    simp only [CtrlRow.service, servePortDisable]
    split
    · rfl
    · split
      · rfl
      · split <;> rfl

end

/-- What a service event leaves as the tracker and the Scheduler has every property that those before it have and that the
service gives. -/
theorem State.serve_sched_of {P : Tracker → Scheduler → Prop} {s : State} {row : CtrlRow}
    {service : Port → Request → State → Served} (h0 : P s.tracker s.sched)
    (hs : ∀ p r, P (service p r (s.select p)).state.tracker (service p r (s.select p)).state.sched) :
    P (s.serve row service).1.tracker (s.serve row service).1.sched := by
  obtain ⟨-, h⟩ | ⟨p, r, -, -, ⟨st, -, h⟩ | ⟨-, h⟩⟩ := s.serve_cases row service
  · rwa [h]
  · rw [h]; exact h0
  · rw [h]; exact hs p r

/-! ### Commands -/

/-- A command that is neither an arbitration, nor a cold reset, nor a service of the Engine leaves the slot counter alone. -/
theorem exec_slotCounter {i : Instr} {s t : State} (h : exec i s = .next t) (ha : i ≠ .arbitration) (hr : i ≠ .coldReset)
    (hi : CtrlRow.ofCommand i = none) : t.sched.slotCounter = s.sched.slotCounter := by
  cases i with
  | coldReset | arbitration => contradiction
  | portLinkReady p =>
    change execPortLinkReady p s = _ at h
    unfold execPortLinkReady at h
    split at h <;> cases h <;> rfl
  | portLinkLost p =>
    change execPortLinkLost p s = _ at h
    unfold execPortLinkLost at h
    split at h <;> cases h <;> simp
  | mLinkLost =>
    change execMLinkLost s = _ at h
    unfold execMLinkLost at h
    split at h <;> cases h <;> simp [Scheduler.flip]
  | xLinkLost =>
    change execXLinkLost s = _ at h
    unfold execXLinkLost at h
    split at h <;> cases h <;> simp
  | mLinkReady | xLinkReady => cases h; rfl
  | packetOutOfPlace l pkt => cases l <;> cases h <;> simp
  | arrival | admissionAdvance | creditGrant | memResp | xCompletion | xCredit | sealTimerExpiry | pwqResponseTimerExpiry
  | responseTimerExpiry | sweepResponseTimerExpiry | sweepTimerExpiry => cases h; simp
  | commit | stageFromActive | windowOpen | windowClose | windowLock | logPop | logClear | portDisable | portEnable
  | warmReset | regionStagedWrite | defaultTargetStagedWrite | windowWrite | portRightsWrite | favouredWrite
  | combineWindowWrite | sweepIntervalWrite | sweepRowsWrite | ctrlWriteObject => cases hi

/-- Who may change the slot counter besides an arbitration: a new FAVOURED and the resets, all of which set it to 0. -/
theorem exec_keepsSlot {i : Instr} {s t : State} (h : exec i s = .next t) (ha : i ≠ .arbitration) :
    s.KeepsSlot t.tracker t.sched := by
  by_cases hr : i = .coldReset
  · subst hr
    cases h
    exact .inr ⟨rfl, .inr rfl⟩
  · cases hi : CtrlRow.ofCommand i with
    | none => exact .inl (exec_slotCounter h ha hr hi)
    | some row =>
      rw [CtrlRow.eq_command_of_ofCommand hi, exec_command] at h
      cases h
      rw [Event.close_tracker, Event.close_sched]
      exact State.serve_sched_of (P := s.KeepsSlot) (.inl rfl) fun p r => row.service_keepsSlot (s.select p) p r

end Sys2Proof.Machine
end

section
/-! The favoured port's share (R129): what one command does to the slot counter while the favoured port waits with a READY read, and
the count of non-sweep grants over a run. -/

namespace Sys2Proof.Machine

section
variable {s t : State} {fav : Port}

/-! ### One arbitration (R123, R125, R126) -/

/-- An arbitration grants nobody and changes nothing, or makes the grant of its decision. -/
theorem State.arbitrate_cases (s : State) :
    (s.granted = none ∧ s.arbitrate = s)
      ∨ ∃ d how w, s.decision = some (how, w) ∧ s.granted = some w ∧ s.arbitrate = s.grant d how w := by
  unfold State.granted State.arbitrate
  cases s.sched.link with
  | down => exact .inl ⟨rfl, rfl⟩
  | up =>
    cases s.freeDtag with
    | none => exact .inl ⟨rfl, rfl⟩
    | some d =>
      cases s.decision with
      | none => exact .inl ⟨rfl, rfl⟩
      | some x => exact .inr ⟨d, x.1, x.2, rfl, rfl, rfl⟩

theorem State.grant_slotCounter (d : Fin 8) (how : Deciding) (w : Winner) :
    (s.grant d how w).sched.slotCounter = s.sched.slotAfter w := rfl

/-- At slot 3 the favoured port's candidate wins, in its hold or at its slot, unless the sweep queue is full. -/
theorem State.decision_of_slot_three {e : TrackerEntry} (hf : s.favouredCandidate = some e) (h3 : s.sched.slotCounter = 3) :
    (∃ row, s.decision = some (.fullSweep, .sweep row)) ∨ ∃ how, s.decision = some (how, .port e) := by
  by_cases hlt : s.sweep.queue.length < 4
  · refine .inr ?_
    cases hh : s.sched.hold with
    | none => exact ⟨_, State.decision_of_favouredOrOther hlt (State.favouredOrOther_of_slot hf hh h3)⟩
    | some n => exact ⟨_, State.decision_of_favouredOrOther hlt (State.favouredOrOther_of_hold hf (by simp [hh]))⟩
  · cases hq : s.sweep.queue with
    | nil => simp [hq] at hlt
    | cons row rest => exact .inl ⟨row, State.decision_of_full hq (Nat.not_lt.mp hlt)⟩

/-- FAVOURED names this port, which has a READY memory read. -/
def State.FavouredWaits (s : State) (fav : Port) : Prop :=
  s.sched.favoured = some fav ∧ (s.portCandidate fav).isSome = true

/-- This command is no grant to this port. -/
def State.NoGrantTo (s : State) (fav : Port) (c : Instr) : Prop :=
  c = .arbitration → ∀ e, s.granted = some (.port e) → e.port ≠ fav

/-- At slot 3 a decision for anything but a sweep serves the favoured port. -/
theorem State.slotCounter_ne_three (hw : s.FavouredWaits fav) {how : Deciding} {w : Winner} (hd : s.decision = some (how, w))
    (hsweep : ∀ row, w ≠ .sweep row) (hport : ∀ e, w = .port e → e.port ≠ fav) : s.sched.slotCounter ≠ 3 := by
  intro h3
  obtain ⟨hfav, hsome⟩ := hw
  obtain ⟨e, he⟩ := Option.isSome_iff_exists.mp hsome
  have hf : s.favouredCandidate = some e := by simp [State.favouredCandidate, hfav, he]
  obtain ⟨row, h⟩ | ⟨_, h⟩ := State.decision_of_slot_three hf h3 <;> cases hd.symm.trans h
  · exact hsweep row rfl
  · exact hport e rfl (State.port_of_portCandidate he)

/-- A grant to another port or to the queue moves the slot counter up by one (R126). -/
theorem Scheduler.slotAfter_of_other {m : Scheduler} {w : Winner} (hlt : m.slotCounter < 3) (hfav : m.favoured = some fav)
    (hsweep : ∀ row, w ≠ .sweep row) (hport : ∀ e, w = .port e → e.port ≠ fav) : m.slotAfter w = m.slotCounter + 1 := by
  cases w with
  | port e => simp [Scheduler.slotAfter, saturate, hlt, hfav, Ne.symm (hport e rfl)]
  | pwq q => simp [Scheduler.slotAfter, saturate, hlt]
  | sweep row => exact absurd rfl (hsweep row)

theorem State.grantsNonSweep_of_granted {w : Winner} (hg : s.granted = some w) :
    s.grantsNonSweep .arbitration = true ↔ ∀ row, w ≠ .sweep row := by
  cases w <;> simp [State.grantsNonSweep, hg]

/-- While the favoured port waits and is not granted, an arbitration moves the slot counter up with each non-sweep grant, and at 3
makes no such grant. -/
theorem State.arbitrate_slotCounter (hw : s.FavouredWaits fav) (hle : s.sched.slotCounter ≤ 3)
    (hno : s.NoGrantTo fav .arbitration) :
    s.sched.slotCounter + (s.grantsNonSweep .arbitration).toNat ≤ 3
      ∧ s.arbitrate.sched.slotCounter = s.sched.slotCounter + (s.grantsNonSweep .arbitration).toNat := by
  obtain ⟨hg, ha⟩ | ⟨d, how, w, hd, hg, ha⟩ := s.arbitrate_cases
  · rw [ha]
    simp [State.grantsNonSweep, hg, hle]
  · rw [ha, State.grant_slotCounter]
    by_cases hsweep : ∀ row, w ≠ .sweep row
    · have hport : ∀ e, w = .port e → e.port ≠ fav := fun e he => hno rfl e (he ▸ hg)
      have hlt : s.sched.slotCounter < 3 := lt_of_le_of_ne hle (State.slotCounter_ne_three hw hd hsweep hport)
      rw [(State.grantsNonSweep_of_granted hg).mpr hsweep, Scheduler.slotAfter_of_other hlt hw.1 hsweep hport]
      exact ⟨hlt, rfl⟩
    · obtain ⟨row, rfl⟩ : ∃ row, w = .sweep row := by simpa using hsweep
      simp [State.grantsNonSweep, hg, hle, Scheduler.slotAfter]

/-! ### One command -/

/-- A port with a READY memory read has an entry in the tracker. -/
theorem State.FavouredWaits.entries_ne_nil (h : s.FavouredWaits fav) : s.tracker.entries ≠ [] := by
  intro hnil
  simpa [State.portCandidate, hnil] using h.2

/-- While the favoured port waits and is not granted, a command counts as a non-sweep grant only below slot 3, and the slot counter
moves up by what the command counts, unless the command ends the wait. -/
theorem exec_slotCounter_of_waits {c : Instr} (h : exec c s = .next t) (hw : s.FavouredWaits fav)
    (hle : s.sched.slotCounter ≤ 3) (hno : s.NoGrantTo fav c) :
    s.sched.slotCounter + (s.grantsNonSweep c).toNat ≤ 3
      ∧ (t.FavouredWaits fav → t.sched.slotCounter = s.sched.slotCounter + (s.grantsNonSweep c).toNat) := by
  by_cases hc : c = .arbitration
  · subst hc
    cases h
    obtain ⟨hroom, heq⟩ := State.arbitrate_slotCounter hw hle hno
    exact ⟨hroom, fun _ => heq⟩
  · have hcount : s.grantsNonSweep c = false := by simp [State.grantsNonSweep, hc]
    rw [hcount]
    refine ⟨hle, fun ht => ?_⟩
    obtain hkept | ⟨-, hnew | hempty⟩ := exec_keepsSlot h hc
    · exact hkept
    · exact absurd (ht.1.trans hw.1.symm) hnew
    · exact absurd hempty ht.entries_ne_nil

end

/-! ### A run -/

/-- The non-sweep grants among the first commands of a run. -/
def grantCount (run : Nat → State) (cmd : Nat → Instr) (n : Nat) : Nat :=
  ((List.range n).filter fun i => (run i).grantsNonSweep (cmd i)).length

theorem grantCount_succ (run : Nat → State) (cmd : Nat → Instr) (n : Nat) :
    grantCount run cmd (n + 1) = grantCount run cmd n + ((run n).grantsNonSweep (cmd n)).toNat := by
  unfold grantCount
  rw [List.range_succ, List.filter_append, List.length_append]
  cases h : (run n).grantsNonSweep (cmd n) <;> simp [h]

/-- While the favoured port waits and is never granted, the slot counter has counted every non-sweep grant, so there are at most
three. -/
theorem grantCount_le_slotCounter {fav : Port} {run : Nat → State} {cmd : Nat → Instr} {n : Nat}
    (h0 : (run 0).sched.slotCounter ≤ 3) (hrun : ∀ i, i < n → exec (cmd i) (run i) = .next (run (i + 1)))
    (hwaits : ∀ i, i < n → (run i).FavouredWaits fav) (hno : ∀ i, i < n → (run i).NoGrantTo fav (cmd i)) :
    ∀ k ≤ n, grantCount run cmd k ≤ 3
      ∧ (k < n → grantCount run cmd k ≤ (run k).sched.slotCounter ∧ (run k).sched.slotCounter ≤ 3) := by
  intro k
  induction k with
  | zero => exact fun _ => ⟨by simp [grantCount], fun _ => ⟨by simp [grantCount], h0⟩⟩
  | succ k ih =>
    intro hk
    obtain ⟨-, ih⟩ := ih (by omega)
    obtain ⟨hcount, hle⟩ := ih hk
    obtain ⟨hroom, hnext⟩ := exec_slotCounter_of_waits (hrun k hk) (hwaits k hk) hle (hno k hk)
    rw [grantCount_succ]
    refine ⟨by omega, fun hlt => ?_⟩
    have hcounter := hnext (hwaits (k + 1) hlt)
    omega

/-- Settles O28: without a grant to the favoured port the slot counter would have counted at most three of the grants. -/
theorem theFavouredPortWinsOneOfFourGrants : Obligations.TheFavouredPortWinsOneOfFourGrants := by
  intro fav run cmd n h0 hrun hwaits hfour
  by_contra hnone
  have hno : ∀ i, i < n → (run i).NoGrantTo fav (cmd i) := fun i hi hc e hg hp => hnone ⟨i, e, hi, hc, hg, hp⟩
  obtain ⟨hthree, -⟩ := grantCount_le_slotCounter h0 hrun hwaits hno n le_rfl
  exact absurd hfour (Nat.not_le.mpr (Nat.lt_succ_of_le hthree))

end Sys2Proof.Machine
end

section
/-! The sweep timer (R137, R140, R145): what an expiry leaves of the Sweep Generator with M DOWN, with room in the sweep queue, and
with a full queue. -/

namespace Sys2Proof.Machine

section
variable {s : State}

/-- What an expiry of a running timer does whatever M and the sweep queue are (R137): the next period begins. -/
def State.beginSweepPeriod (s : State) : State := { s with sweep := { s.sweep with timer := sweepPeriod s.sweep.interval } }

theorem exec_sweepTimerExpiry (s : State) : exec .sweepTimerExpiry s = .next (Event.record s.expireSweepTimer) := rfl

/-- The sweep timer is not stopped, in the form the model tests it. -/
theorem SweepGen.timer_running {g : SweepGen} (hrun : g.timer ≠ none) : ¬ g.timer.isNone := by
  simpa using hrun

theorem State.expireSweepTimer_of_down (hrun : s.sweep.timer ≠ none) (hdown : s.sched.link = .down) :
    s.expireSweepTimer = (s.beginSweepPeriod, []) := by
  rw [State.expireSweepTimer, if_neg (SweepGen.timer_running hrun)]
  exact if_pos hdown

theorem State.expireSweepTimer_of_room (hrun : s.sweep.timer ≠ none) (hup : s.sched.link = .up)
    (hroom : s.sweep.queue.length < Config.sweepRows) :
    s.expireSweepTimer = ({ s.beginSweepPeriod with sweep := s.beginSweepPeriod.sweep.queueRow }, []) := by
  have hnotDown : s.sched.link ≠ .down := by simp [hup]
  rw [State.expireSweepTimer, if_neg (SweepGen.timer_running hrun)]
  exact (if_neg hnotDown).trans (if_pos hroom)

theorem State.expireSweepTimer_of_full (hrun : s.sweep.timer ≠ none) (hup : s.sched.link = .up)
    (hfull : Config.sweepRows ≤ s.sweep.queue.length) :
    s.expireSweepTimer = (s.beginSweepPeriod, [sweepRecord .sweepOverrun (BitVec.ofNat 20 s.sweep.row)]) := by
  have hnotDown : s.sched.link ≠ .down := by simp [hup]
  rw [State.expireSweepTimer, if_neg (SweepGen.timer_running hrun)]
  exact (if_neg hnotDown).trans (if_neg (Nat.not_lt.mpr hfull))

end

/-- Settles O36: the link of M, then the room in the sweep queue, decide what an expiry leaves and which records it hands over. -/
theorem sweepTimerQueuesTheNextRow : Obligations.SweepTimerQueuesTheNextRow := by
  intro s period hrun
  refine ⟨fun hdown => ?_, fun hup hroom => ?_, fun hup hfull => ?_⟩
  · rw [exec_sweepTimerExpiry, State.expireSweepTimer_of_down hrun hdown]
    rfl
  · rw [exec_sweepTimerExpiry, State.expireSweepTimer_of_room hrun hup hroom]
    rfl
  · rw [exec_sweepTimerExpiry, State.expireSweepTimer_of_full hrun hup hfull]
    rfl

end Sys2Proof.Machine
end

section
/-! The Engine's management of the log and of the ports (R168 to R170): a service that leaves another state, from the selection to the
end of its event. -/

namespace Sys2Proof.Machine

/-! ### A service that leaves another state (R159, R160) -/

/-- The requester's block from the selection to the end of a service. -/
theorem PortBlock.leave_complete_returnCredits {b : PortBlock} (ho : b.owed = 0) (hs : b.state = .up) (tag : BitVec 8)
    (st : Status) (v : Option Word64) :
    (b.leave.complete tag st v []).returnCredits = b.afterHead [completionPacket tag st v []] := by
  rw [PortBlock.returnCredits_of_owed (by simp [PortBlock.leave, PortBlock.complete_eq])
    (by simp [PortBlock.leave, PortBlock.complete_eq, hs])]
  simp [PortBlock.leave, PortBlock.complete_eq, PortBlock.afterHead, hs, ho]

section
variable {s u : State} {p : Port} {r : Request} {row : CtrlRow} {service : Port → Request → State → Served} {st : Status}
  {v : Word64}

/-- The port whose request the Engine serves is UP. -/
theorem State.Serves.port_up (h : s.Serves p r row) : (s.ports.get p).state = .up := by
  obtain ⟨⟨-, hw, -⟩, -⟩ := h
  obtain ⟨hup, -⟩ := State.engineWinner_head hw
  exact hup

/-- The head whose request the Engine serves waits for it (R159). -/
theorem State.Serves.progress_eq (h : s.Serves p r row) : (s.ports.get p).progress = .waitEngine := by
  obtain ⟨⟨-, hw, -⟩, -⟩ := h
  obtain ⟨-, hg, -⟩ := State.engineWinner_head hw
  exact hg

theorem State.Serves.nothingOwed (h : s.Serves p r row) : s.NothingOwed := by
  obtain ⟨⟨hn, -, -⟩, -⟩ := h
  exact hn

/-- A service that makes of the selection what the selection would have made of another state: to the end of its event, that state
returns the credits it owes, and the requester is answered. -/
theorem State.close_serve_select (h : s.Serves p r row) (hup : (u.ports.get p).state = .up) (ho : (u.ports.get p).owed = 0)
    (hv : service p r (s.select p) = { state := u.select p, status := st, value := v }) :
    Event.close (s.serve row service) = (Event.close (u, [])).afterService p r st v := by
  have hports : ((u.select p).modPort p (·.complete r.tag st (some v) [])).ports.map PortBlock.returnCredits
      = (u.ports.map PortBlock.returnCredits).mod p (·.afterHead [completionPacket r.tag st (some v) []]) := by
    refine PerPort.ext_get fun q => ?_
    by_cases hq : q = p
    · subst hq
      simp [PortBlock.leave_complete_returnCredits ho hup, ho]
    · simp [hq]
  rw [State.serve_of_serves h, hv]
  simp only [Event.close, Served.reply, hports]
  rfl

/-- The same where the other state owes no credits. -/
theorem State.close_serve_select_of_nothingOwed (h : s.Serves p r row) (hup : (u.ports.get p).state = .up)
    (hn : u.NothingOwed) (hv : service p r (s.select p) = { state := u.select p, status := st, value := v }) :
    Event.close (s.serve row service) = u.afterService p r st v := by
  rw [State.close_serve_select h hup (hn.owed_get p) hv, Event.close_of_nothingOwed hn, State.handAll_nil]

end

/-! ### The log (R168) -/

section
variable {s : State} {p : Port} {r : Request} {row : CtrlRow} {service : Port → Request → State → Served}

/-- A service that replaces the log and nothing else, to the end of its event. -/
theorem State.close_serve_log (h : s.Serves p r row) {l : ErrorLog} {v : Word64}
    (hv : service p r (s.select p) = { state := { s.select p with log := l }, status := .ok, value := v }) :
    Event.close (s.serve row service) = State.afterService { s with log := l } p r .ok v :=
  State.close_serve_select_of_nothingOwed (u := { s with log := l }) h h.port_up h.nothingOwed hv

end

/-- Settles O43: each service to the end of its event; on an empty log a pop leaves the records as they are. -/
theorem logActionsRemoveRecords : Obligations.LogActionsRemoveRecords := by
  intro s p r
  have hpop (hs : s.Serves p r .logPop) {left : List LogEntry} (hleft : s.log.records.tail = left) :
      exec .logPop s = .next (State.afterService { s with log := { s.log with records := left } } p r .ok
        (BitVec.ofNat 64 left.length)) := by
    subst hleft
    exact congrArg Host.Outcome.next (State.close_serve_log hs rfl)
  refine ⟨fun hs => ⟨fun hempty => ?_, fun oldest rest hrecords => ?_⟩, fun hs => ?_⟩
  · have hsame : { s with log := { s.log with records := [] } } = s := by rw [← hempty]
    rw [hpop hs (left := []) (by rw [hempty]; rfl), hsame]
    rfl
  · exact hpop hs (by rw [hrecords]; rfl)
  · exact congrArg Host.Outcome.next (State.close_serve_log hs rfl)

/-! ### Another block for one port -/

theorem Port.ofCode_code (p : Port) : Port.ofCode p.code = some p := by cases p <;> rfl

theorem Port.ofCode_eq_none {n : Nat} (h : 3 < n) : Port.ofCode n = none := by
  obtain ⟨k, rfl⟩ : ∃ k, n = k + 4 := ⟨n - 4, by omega⟩
  rfl

section
variable {s : State} {p q : Port}

@[simp] theorem State.withPort_ports (b : PortBlock) : (s.withPort p b).ports = s.ports.set p b := rfl

theorem State.withPort_nothingOwed (h : s.NothingOwed) {b : PortBlock} (hb : b.owed = 0) : (s.withPort q b).NothingOwed := by
  refine PerPort.all_iff_get.mpr fun x => ?_
  by_cases hx : x = q
  · subst hx; simpa using hb
  · simpa [hx] using h.owed_get x

@[simp] theorem State.select_port_state : ((s.select p).ports.get q).state = (s.ports.get q).state := by
  by_cases hq : q = p
  · subst hq; simp [PortBlock.leave]
  · simp [hq]

/-- A change of another port's block may as well come before the selection. -/
theorem State.select_modPort_other (hq : q ≠ p) (f : PortBlock → PortBlock) :
    (s.select p).modPort q f = (s.withPort q (f (s.ports.get q))).select p := by
  simp [State.select, State.modPort, State.withPort, PerPort.mod, hq, hq.symm, PerPort.set_comm]

end

/-! ### Ports disabled and enabled (R44, R46, R169, R170) -/

/-- A port that goes from UP to DISABLED, to the end of its event (R40, R44). -/
theorem PortBlock.disable_returnCredits {b : PortBlock} (ho : b.owed = 0) :
    b.disable.returnCredits = { b with
      state := .disabled, ingress := [], progress := .examine, cls := none
      credits := b.credits + b.ingress.length
      discarded := min 65535 (b.discarded + b.ingress.length)
      out := b.out ++ if b.ingress = [] then [] else [creditPacket b.ingress.length] } := by
  by_cases hi : b.ingress = []
  · rw [PortBlock.returnCredits_of_owed_zero (by simp [PortBlock.disable, PortBlock.emptyIngress, ho, hi])]
    simp [PortBlock.disable, PortBlock.emptyIngress, hi, ho]
  · rw [PortBlock.returnCredits_of_owed (by simp [PortBlock.disable, PortBlock.emptyIngress, hi])
      (by simp [PortBlock.disable])]
    simp [PortBlock.disable, PortBlock.emptyIngress, hi, ho]

section
variable {s : State} {p q : Port} {r : Request}

theorem servePortDisable_of_code (hr : r.value.toNat = q.code) (hq : q ≠ p) :
    servePortDisable p r s = match (s.ports.get q).state with
      | .up => { state := s.modPort q (·.disable), status := .ok, value := 2 }
      | .disabled => { state := s, status := .ok, value := 2 }
      | .down => { state := s, status := .ok, value := 0 } := by
  rw [servePortDisable, hr, Port.ofCode_code]
  simp only [if_neg hq]
  rfl

theorem servePortEnable_of_code (hr : r.value.toNat = q.code) :
    servePortEnable p r s = match (s.ports.get q).state with
      | .down => { state := s, status := .state }
      | .disabled => { state := s.modPort q (·.enable), status := .ok, value := 1 }
      | .up => { state := s, status := .ok, value := 1 } := by
  rw [servePortEnable, hr, Port.ofCode_code]
  rfl

/-- A port that is not UP is not the requester. -/
theorem State.Serves.ne_of_state {row : CtrlRow} (h : s.Serves p r row) (hq : (s.ports.get q).state ≠ .up) : q ≠ p :=
  fun he => hq (he ▸ h.port_up)

/-- PORT_DISABLE of another port that is UP, as a command (R44). -/
theorem exec_portDisable_of_up (h : s.Serves p r .portDisable) (hr : r.value.toNat = q.code) (hq : q ≠ p)
    (hup : (s.ports.get q).state = .up) :
    exec .portDisable s = .next ((s.withPort q (s.ports.get q).disable.returnCredits).afterService p r .ok 2) := by
  have hv : servePortDisable p r (s.select p)
      = { state := (s.withPort q (s.ports.get q).disable).select p, status := .ok, value := 2 } := by
    rw [servePortDisable_of_code hr hq, State.select_port_state, hup, ← State.select_modPort_other hq]
  refine congrArg Host.Outcome.next ?_
  rw [State.close_serve_select h (by simp [hq.symm, h.port_up]) (by simp [hq.symm, h.nothingOwed.owed_get p]) hv,
    Event.close_port h.nothingOwed rfl]
  rfl

/-- PORT_ENABLE of a DISABLED port, as a command (R46). -/
theorem exec_portEnable_of_disabled (h : s.Serves p r .portEnable) (hr : r.value.toNat = q.code)
    (hd : (s.ports.get q).state = .disabled) :
    exec .portEnable s = .next ((s.withPort q (s.ports.get q).enable).afterService p r .ok 1) := by
  have hq : q ≠ p := h.ne_of_state (by simp [hd])
  have hv : servePortEnable p r (s.select p)
      = { state := (s.withPort q (s.ports.get q).enable).select p, status := .ok, value := 1 } := by
    rw [servePortEnable_of_code hr, State.select_port_state, hd, ← State.select_modPort_other hq]
  exact congrArg Host.Outcome.next (State.close_serve_select_of_nothingOwed h (by simp [hq.symm, h.port_up])
    (State.withPort_nothingOwed h.nothingOwed (h.nothingOwed.owed_get q)) hv)

end

/-- Settles O44: the port that the argument names and its state decide which service of the two tables runs to the end of its
event. -/
theorem portsAreDisabledAndEnabled : Obligations.PortsAreDisabledAndEnabled := by
  intro s p q r b
  refine ⟨fun hs => ⟨fun hbig => ?_, fun hself => ?_, fun hr hq => ⟨fun hup => ?_, fun hd => ?_, fun hd => ?_⟩⟩,
    fun hs => ⟨fun hbig => ?_, fun hr => ⟨fun hd => ?_, fun hd => ?_, fun hup => ?_⟩⟩⟩
  · exact congrArg Host.Outcome.next (State.close_serve_unchanged hs (by rw [servePortDisable, Port.ofCode_eq_none hbig]))
  · exact congrArg Host.Outcome.next (State.close_serve_unchanged hs (by simp [servePortDisable, hself, Port.ofCode_code]))
  · rw [exec_portDisable_of_up hs hr hq hup, PortBlock.disable_returnCredits (hs.nothingOwed.owed_get q)]
  · exact congrArg Host.Outcome.next
      (State.close_serve_unchanged hs (by rw [servePortDisable_of_code hr hq, State.select_port_state, hd]))
  · exact congrArg Host.Outcome.next
      (State.close_serve_unchanged hs (by rw [servePortDisable_of_code hr hq, State.select_port_state, hd]))
  · exact congrArg Host.Outcome.next (State.close_serve_unchanged hs (by rw [servePortEnable, Port.ofCode_eq_none hbig]))
  · exact congrArg Host.Outcome.next
      (State.close_serve_unchanged hs (by rw [servePortEnable_of_code hr, State.select_port_state, hd]))
  · exact exec_portEnable_of_disabled hs hr hd
  · exact congrArg Host.Outcome.next
      (State.close_serve_unchanged hs (by rw [servePortEnable_of_code hr, State.select_port_state, hup]))

end Sys2Proof.Machine
end

section
/-! The advance of one port's head beside a change of another port's block: a head that has room leaves every other port's block alone
and does not look at it (R52, R60 to R67). -/

namespace Sys2Proof.Machine

/-- What an event leaves, with the block of one port replaced. -/
def Event.withPort (e : Event) (p : Port) (b : PortBlock) : Event := (e.1.withPort p b, e.2)

@[simp] theorem Event.withPort_mk (s : State) (rs : List ErrorRecord) (p : Port) (b : PortBlock) :
    Event.withPort (s, rs) p b = (s.withPort p b, rs) := rfl

theorem Event.withPort_ite (c : Prop) [Decidable c] (e f : Event) (p : Port) (b : PortBlock) :
    (if c then e else f).withPort p b = if c then e.withPort p b else f.withPort p b :=
  apply_ite (Event.withPort · p b) c e f

theorem State.takeWrite_withPort (s : State) (p q : Port) (b : PortBlock) (a : BitVec 36) (r : Request) (c : Classification)
    (owed : Option (Fin 24)) :
    (s.withPort p b).takeWrite q a r c owed = (s.takeWrite q a r c owed).map fun x => (x.1.withPort p b, x.2) := by
  have hpwq : (s.withPort p b).pwq = s.pwq := rfl
  unfold State.takeWrite
  simp only [hpwq]
  split
  · simp only [apply_ite (Option.map _), Option.map_some, Option.map_none]
    rfl
  · rfl

section
variable (s : State) {p q : Port} (hq : q ≠ p) (b : PortBlock)

theorem State.withPort_get : s.withPort p (s.ports.get p) = s := by simp [State.withPort]

include hq

@[simp] theorem State.withPort_get_other : (s.withPort p b).ports.get q = s.ports.get q := by simp [hq]

theorem State.modPort_withPort (f : PortBlock → PortBlock) :
    (s.withPort p b).modPort q f = (s.modPort q f).withPort p b := by
  simp [State.modPort, State.withPort, PerPort.mod, hq, PerPort.set_comm _ _ _ hq]

theorem State.answerHead_withPort (r : Request) (st : Status) :
    (s.withPort p b).answerHead q r st = (s.answerHead q r st).withPort p b := by
  simp [State.answerHead, Event.withPort, s.modPort_withPort hq]

theorem State.dropHead_withPort (r : Request) (kind : RecordKind) (c : Option Classification) :
    (s.withPort p b).dropHead q r kind c = (s.dropHead q r kind c).withPort p b := by
  simp [State.dropHead, Event.withPort, s.modPort_withPort hq]

theorem State.waitHead_withPort (g : Progress) (c : Option Classification) :
    (s.withPort p b).waitHead q g c = (s.waitHead q g c).withPort p b := by
  simp [State.waitHead, Event.withPort, s.modPort_withPort hq]

theorem State.dispatchRead_withPort (r : Request) (a : BitVec 36) (c : Classification) :
    (s.withPort p b).dispatchRead q r a c = (s.dispatchRead q r a c).withPort p b := by
  cases hy : s.youngest (lineOf a) with
  | none =>
    rw [State.dispatchRead_of_none hy, State.dispatchRead_of_none (s := s.withPort p b) hy, Event.withPort,
      ← State.modPort_withPort _ hq]
    rfl
  | some e =>
    by_cases hcov : LineImage.covers e.bytes (lineOffset a) r.length = true
    · rw [State.dispatchRead_of_hit hy hcov, State.dispatchRead_of_hit (s := s.withPort p b) hy hcov, Event.withPort,
        ← State.modPort_withPort _ hq]
      rfl
    · rw [State.dispatchRead_of_lacking hy hcov, State.dispatchRead_of_lacking (s := s.withPort p b) hy hcov,
        Event.withPort, ← State.modPort_withPort _ hq]
      rfl

theorem State.dispatchWrite_withPort (r : Request) (a : BitVec 36) (c : Classification) :
    (s.withPort p b).dispatchWrite q r a c = (s.dispatchWrite q r a c).withPort p b := by
  have hfree : (s.withPort p b).freeIndex = s.freeIndex := rfl
  unfold State.dispatchWrite
  simp only [hfree, State.takeWrite_withPort]
  cases s.takeWrite q a r c (if r.ack = true then some s.freeIndex else none) with
  | none => exact s.waitHead_withPort hq b .waitPwq (some c)
  | some x =>
    simp only [Option.map_some, Event.withPort, ← State.modPort_withPort _ hq]
    split <;> rfl

theorem State.dispatchFlush_withPort (r : Request) :
    (s.withPort p b).dispatchFlush q r = (s.dispatchFlush q r).withPort p b := by
  simp only [State.dispatchFlush, Event.withPort_ite, Event.withPort_mk, ← State.modPort_withPort _ hq]
  rfl

theorem State.dispatch_withPort (r : Request) (c : Classification) :
    (s.withPort p b).dispatch q r c = (s.dispatch q r c).withPort p b := by
  unfold State.dispatch
  split
  · rw [State.dispatchWrite_withPort s hq, State.dispatchRead_withPort s hq, Event.withPort_ite]
  · exact s.waitHead_withPort hq b .waitX (some c)
  · rfl

theorem State.stepAccess_withPort (r : Request) (c : Classification) :
    (s.withPort p b).stepAccess q r c = (s.stepAccess q r c).withPort p b := by
  have hlink (d : Dest) : (s.withPort p b).linkOf d = s.linkOf d := by cases d <;> rfl
  simp only [State.stepAccess, s.answerHead_withPort hq, s.dropHead_withPort hq, s.dispatch_withPort hq, hlink]
  split <;> simp only [Event.withPort_ite]

/-- Step 6 looks at the rights of the request's own port (R26, R60). -/
theorem State.classify_withPort (r : Request) : (s.withPort p b).classify q r = s.classify q r := by
  simp only [State.classify, s.withPort_get_other hq]
  rfl

theorem State.stepClassify_withPort (r : Request) :
    (s.withPort p b).stepClassify q r = (s.stepClassify q r).withPort p b := by
  rw [State.stepClassify, s.dispatchFlush_withPort hq, s.classify_withPort hq, s.stepAccess_withPort hq,
    State.stepClassify, Event.withPort_ite]

theorem State.room_withPort : (s.withPort p b).room q = s.room q := by
  simp only [State.room, s.withPort_get_other hq]
  rfl

/-- The advance of a head in WAIT_ROOM (R52, R59, R69) leaves every other port's block alone and does not look at it. -/
theorem State.advance_withPort (hg : (s.ports.get q).progress = .waitRoom) :
    (s.withPort p b).advance q = (s.advance q).withPort p b := by
  simp only [State.advance, s.withPort_get_other hq, hg, s.room_withPort hq, s.stepClassify_withPort hq]
  split
  · rw [Event.withPort_ite]
    rfl
  · rfl

theorem State.advance_port_other (hg : (s.ports.get q).progress = .waitRoom) :
    (s.advance q).1.ports.get p = s.ports.get p := by
  have h := s.advance_withPort hq (s.ports.get p) hg
  rw [State.withPort_get] at h
  rw [h]
  simp [Event.withPort]

end

end Sys2Proof.Machine
end

section
/-! Writes of PORT_RIGHTS (R165, R166), with the re-test of a head in WAIT_ROOM (R69, R167). -/

namespace Sys2Proof.Machine

/-! ### The value and the ports that manage (R165, R166) -/

/-- The values that encode rights (R165). -/
abbrev Rights.Legal (v : Word64) : Prop := v.toNat % 256 < 8 ∧ 1 ≤ v.toNat / 256 ∧ v.toNat / 256 ≤ 8

theorem Rights.ofValue_of_legal {v : Word64} (h : Rights.Legal v) :
    Rights.ofValue v = some
      { management := v.getLsbD 0, privilege := v.getLsbD 1, window := v.getLsbD 2, quota := v.toNat / 256 } :=
  if_pos h

theorem Rights.ofValue_of_not_legal {v : Word64} (h : ¬Rights.Legal v) : Rights.ofValue v = none := if_neg h

theorem PerPort.managed_eq_true {x : PerPort PortBlock} :
    x.managed = true ↔ ∃ u, (x.get u).state = .up ∧ (x.get u).rights.management = true := by
  have hmanages (b : PortBlock) : b.manages = true ↔ b.state = .up ∧ b.rights.management = true := by
    simp [PortBlock.manages]
  simp only [PerPort.managed, Bool.or_eq_true, ← hmanages]
  constructor
  · rintro (((h | h) | h) | h)
    exacts [⟨.u0, h⟩, ⟨.u1, h⟩, ⟨.u2, h⟩, ⟨.u3, h⟩]
  · rintro ⟨u, h⟩
    cases u
    exacts [.inl (.inl (.inl h)), .inl (.inl (.inr h)), .inl (.inr h), .inr h]

/-! ### The service (R165, R166) -/

/-- The rights of one port replaced. -/
def State.withRights (s : State) (q : Port) (rights : Rights) : State :=
  s.withPort q { s.ports.get q with rights := rights }

section
variable {s : State} {p q : Port} {r : Request} {rights : Rights}

theorem State.withRights_get (u : Port) :
    (s.withRights q rights).ports.get u
      = { s.ports.get u with rights := if u = q then rights else (s.ports.get u).rights } := by
  by_cases hu : u = q
  · subst hu; simp [State.withRights]
  · simp [State.withRights, hu]

theorem State.withRights_nothingOwed (h : s.NothingOwed) : (s.withRights q rights).NothingOwed :=
  State.withPort_nothingOwed h (h.owed_get q)

/-- The selection keeps every port's rights, so they may as well be written before it. -/
theorem State.select_modPort_rights :
    (s.select p).modPort q (fun b => { b with rights := rights }) = (s.withRights q rights).select p := by
  by_cases hq : q = p
  · subst hq
    simp [State.withRights, State.withPort, State.select, State.modPort, PerPort.mod, PortBlock.leave]
  · exact State.select_modPort_other hq _

theorem State.select_managed : (s.select p).ports.managed = s.ports.managed := by
  have hrights (u : Port) : ((s.select p).ports.get u).rights = (s.ports.get u).rights := by
    by_cases hu : u = p
    · subst hu; simp [PortBlock.leave]
    · simp [hu]
  rw [Bool.eq_iff_iff, PerPort.managed_eq_true, PerPort.managed_eq_true]
  simp only [State.select_port_state, hrights]

/-- A write of legal rights, after the selection: refused where no UP port would manage, and otherwise written before the re-test of the
named port's head (R69, R166). -/
theorem servePortRights_of_encodes (hv : Rights.ofValue r.value = some rights) (hr : r.index = q.code) :
    servePortRights p r (s.select p) =
      let t := (s.withRights q rights).select p
      if (s.withRights q rights).ports.managed then
        let e : Event := if (t.ports.get q).progress = .waitRoom then t.advance q else (t, [])
        { state := e.1, status := .ok, records := e.2 }
      else { state := s.select p, status := .state } := by
  simp only [servePortRights, hv, hr, Port.ofCode_code, State.select_modPort_rights, State.select_managed]

/-- The head of the request that is served waits for the Engine, so a head in WAIT_ROOM is another port's. -/
theorem State.Serves.ne_of_waitRoom {row : CtrlRow} (h : s.Serves p r row) (hg : (s.ports.get q).progress = .waitRoom) :
    q ≠ p := by
  rintro rfl
  rw [h.progress_eq] at hg
  cases hg

/-- Two blocks that differ in credits still owed alone make no difference at the end of an event, which returns them (R40). -/
theorem Event.close_withPort_congr {p : Port} {b b' : PortBlock} (h : b.returnCredits = b'.returnCredits) (e : Event) :
    Event.close (e.withPort p b) = Event.close (e.withPort p b') := by
  have hports : (e.1.ports.set p b).map PortBlock.returnCredits = (e.1.ports.set p b').map PortBlock.returnCredits := by
    rw [PerPort.map_set, PerPort.map_set, h]
  simp only [Event.close, Event.withPort, State.withPort, hports]

/-- The re-test within a service does what an advance after the service does (R69): the answer to the requester and its CREDIT stand
in another port's block. -/
theorem Event.close_reply_advance {w : State} (hn : w.NothingOwed) (hup : (w.ports.get p).state = .up) (hq : q ≠ p)
    (hg : (w.ports.get q).progress = .waitRoom) (st : Status) (v : Word64) :
    Event.close ((((w.select p).advance q).1.modPort p (·.complete r.tag st (some v) [])), ((w.select p).advance q).2)
      = Event.close ((w.afterService p r st v).advance q) := by
  have hgsel : ((w.select p).ports.get q).progress = .waitRoom := by simpa [hq] using hg
  have hafter : w.afterService p r st v
      = (w.select p).withPort p ((w.ports.get p).afterHead [completionPacket r.tag st (some v) []]) := by
    simp [State.afterService, State.afterHead, State.select, State.modPort, State.withPort, PerPort.mod]
  have hreply : ((w.select p).advance q).1.modPort p (·.complete r.tag st (some v) [])
      = ((w.select p).advance q).1.withPort p ((w.ports.get p).leave.complete r.tag st (some v) []) := by
    simp [State.modPort, State.withPort, PerPort.mod, State.advance_port_other _ hq hgsel]
  have hcredits : ((w.ports.get p).leave.complete r.tag st (some v) []).returnCredits
      = ((w.ports.get p).afterHead [completionPacket r.tag st (some v) []]).returnCredits := by
    rw [PortBlock.leave_complete_returnCredits (hn.owed_get p) hup,
      PortBlock.returnCredits_of_owed_zero (b := PortBlock.afterHead _ _) (hn.owed_get p)]
  rw [hafter, State.advance_withPort _ hq _ hgsel, hreply]
  exact Event.close_withPort_congr hcredits _

end

section
variable {s : State} {p q : Port} {r : Request} {rights : Rights}

/-- A write of rights that would leave no UP port with the management right changes nothing (R166). -/
theorem exec_portRightsWrite_of_unmanaged (hs : s.Serves p r .portRightsWrite) (hv : Rights.ofValue r.value = some rights)
    (hr : r.index = q.code) (hm : ¬(s.withRights q rights).ports.managed = true) :
    exec .portRightsWrite s = .next (s.afterService p r .state 0) :=
  congrArg Host.Outcome.next
    (State.close_serve_unchanged hs ((servePortRights_of_encodes hv hr).trans (if_neg hm)))

/-- A write of the rights of a port whose head does not wait for room replaces them (R165). -/
theorem exec_portRightsWrite_of_not_waitRoom (hs : s.Serves p r .portRightsWrite) (hv : Rights.ofValue r.value = some rights)
    (hr : r.index = q.code) (hm : (s.withRights q rights).ports.managed = true)
    (hg : (s.ports.get q).progress ≠ .waitRoom) :
    exec .portRightsWrite s = .next ((s.withRights q rights).afterService p r .ok 0) := by
  have hgsel : (((s.withRights q rights).select p).ports.get q).progress ≠ .waitRoom := by
    by_cases hq : q = p
    · subst hq; simp [PortBlock.leave]
    · simpa [hq, State.withRights_get] using hg
  have hserve : servePortRights p r (s.select p) = { state := (s.withRights q rights).select p, status := .ok } := by
    rw [servePortRights_of_encodes hv hr, if_pos hm, if_neg hgsel]
  exact congrArg Host.Outcome.next (State.close_serve_select_of_nothingOwed hs
    (by simpa [State.withRights_get] using hs.port_up) (State.withRights_nothingOwed hs.nothingOwed) hserve)

/-- A write of the rights of a port whose head waits for room does what the write and then an advance of that head do (R69, R167). -/
theorem exec_portRightsWrite_of_waitRoom (hs : s.Serves p r .portRightsWrite) (hv : Rights.ofValue r.value = some rights)
    (hr : r.index = q.code) (hm : (s.withRights q rights).ports.managed = true)
    (hg : (s.ports.get q).progress = .waitRoom) :
    exec .portRightsWrite s = exec (.admissionAdvance q) ((s.withRights q rights).afterService p r .ok 0) := by
  have hq : q ≠ p := hs.ne_of_waitRoom hg
  have hgw : ((s.withRights q rights).ports.get q).progress = .waitRoom := by simpa [State.withRights_get] using hg
  have hgsel : (((s.withRights q rights).select p).ports.get q).progress = .waitRoom := by simpa [hq] using hgw
  have hclose := Event.close_reply_advance (r := r) (State.withRights_nothingOwed hs.nothingOwed)
    (by simpa [State.withRights_get] using hs.port_up) hq hgw .ok 0
  refine congrArg Host.Outcome.next (Eq.trans ?_ hclose)
  rw [State.serve_of_serves hs, servePortRights_of_encodes hv hr, if_pos hm, if_pos hgsel]
  rfl

end

/-- Settles O46: the value, the ports that would manage and the progress of the named port's head decide what the service does. -/
theorem rightsWritesReplaceRights : Obligations.RightsWritesReplaceRights := by
  intro s p q r hs hr n legal rights written managed
  have hv (hl : legal) : Rights.ofValue r.value = some rights := Rights.ofValue_of_legal hl
  have hmanaged : written.ports.managed = true ↔ managed := PerPort.managed_eq_true
  refine ⟨fun hl => ?_, fun hl hm => ?_, fun hl hm hg => ?_, fun hl hm hg => ?_⟩
  · have hserve : servePortRights p r (s.select p) = { state := s.select p, status := .invalid } := by
      simp only [servePortRights, Rights.ofValue_of_not_legal hl]
    exact congrArg Host.Outcome.next (State.close_serve_unchanged hs hserve)
  · exact exec_portRightsWrite_of_unmanaged hs (hv hl) hr (mt hmanaged.mp hm)
  · exact exec_portRightsWrite_of_not_waitRoom hs (hv hl) hr (hmanaged.mpr hm) hg
  · exact exec_portRightsWrite_of_waitRoom hs (hv hl) hr (hmanaged.mpr hm) hg

end Sys2Proof.Machine
end

section
/-! A record handed to the log: stored and noticed while the log has room, counted as overflow when it is full (R177, R178, R181). -/

namespace Sys2Proof.Machine

open Sys2Proof.Word64 (field place)

/-! ### A field read from a word made of placed fields (section 3.7) -/

@[simp] theorem field_or (a b : Word64) (lo n : Nat) : field (a ||| b) lo n = field a lo n ||| field b lo n := by
  ext i hi
  simp [field]

/-- A field that fits the word is read back from where it was put. -/
theorem field_place_same {n lo : Nat} (h : lo + n ≤ 64) (x : BitVec n) : field (place lo x) lo n = x := by
  ext i hi
  have hword : lo + i < 64 := by omega
  simp [field, place, hword, hi]

/-- A field put above or below the bits that are read adds nothing to them. -/
theorem field_place_disjoint {m n lo off : Nat} (h : off + m ≤ lo ∨ lo + n ≤ off) (x : BitVec m) :
    field (place off x) lo n = 0 := by
  ext i hi
  simp only [field, place, BitVec.getElem_extractLsb', BitVec.getLsbD_shiftLeft, BitVec.getLsbD_setWidth]
  obtain habove | hbelow := h
  · have hout : x.getLsbD (lo + i - off) = false := BitVec.getLsbD_of_ge _ _ (by omega)
    simp [hout]
  · have hlt : lo + i < off := by omega
    simp [hlt]

/-! ### The NOTICE (R181, section 3.7) -/

/-- The port field of a record or NOTICE as a number (R176, R181). -/
theorem portField_toNat (p : Option Port) : (portField p).toNat = match p with | some q => q.code | none => 7 := by
  cases p with
  | none => rfl
  | some q => cases q <;> rfl

section
variable (n : BitVec 16) (kind : RecordKind) (p : Option Port)

theorem noticePacket_kind : field (noticePacket n kind p).word0 0 4 = 10 := by
  simp [noticePacket, field_place_same, field_place_disjoint]

theorem noticePacket_sequence : field (noticePacket n kind p).word0 16 16 = n := by
  simp [noticePacket, field_place_same, field_place_disjoint]

theorem noticePacket_recordKind : field (noticePacket n kind p).word0 32 5 = kind.code := by
  simp [noticePacket, field_place_same, field_place_disjoint]

theorem noticePacket_port : field (noticePacket n kind p).word0 40 3 = portField p := by
  simp [noticePacket, field_place_same, field_place_disjoint]

end

/-! ### The three effects of a record (R177, R178) -/

section
variable {s : State}

theorem ErrorLog.take_of_room {l : ErrorLog} (h : l.records.length < 8) (r : ErrorRecord) :
    l.take r = { l with records := l.records ++ [{ sequence := l.sequence, record := r }], sequence := l.sequence + 1 } :=
  if_pos h

theorem ErrorLog.take_of_full {l : ErrorLog} (h : 8 ≤ l.records.length) (r : ErrorRecord) :
    l.take r = { l with overflow := saturate 255 l.overflow } :=
  if_neg (Nat.not_lt.mpr h)

theorem State.modPort_eq_withPort (p : Port) (f : PortBlock → PortBlock) :
    s.modPort p f = s.withPort p (f (s.ports.get p)) := rfl

/-- A stored record is noticed at the notice port while notices are on and that port is UP. -/
theorem State.hand_of_noticed (hl : s.log.records.length < 8) (hn : s.log.noticeEnable = true)
    (hu : (s.ports.get s.log.noticePort).state = .up) (r : ErrorRecord) :
    s.hand r = State.modPort { s with log := s.log.take r } s.log.noticePort
      (·.send (noticePacket s.log.sequence r.kind r.port)) := by
  rw [ErrorLog.take_of_room hl]
  exact (if_pos hl).trans (if_pos ⟨hn, hu⟩)

/-- A stored record that is not noticed changes the log alone. -/
theorem State.hand_of_unnoticed (hl : s.log.records.length < 8)
    (hn : s.log.noticeEnable = false ∨ (s.ports.get s.log.noticePort).state ≠ .up) (r : ErrorRecord) :
    s.hand r = { s with log := s.log.take r } := by
  have hno : ¬(s.log.noticeEnable = true ∧ (s.ports.get s.log.noticePort).state = .up) := fun h =>
    hn.elim (fun hoff => by simp [hoff] at h) (fun hdown => hdown h.2)
  rw [ErrorLog.take_of_room hl]
  exact (if_pos hl).trans (if_neg hno)

/-- A record that finds the log full changes the log alone. -/
theorem State.hand_of_full (hl : 8 ≤ s.log.records.length) (r : ErrorRecord) : s.hand r = { s with log := s.log.take r } := by
  rw [ErrorLog.take_of_full hl]
  exact if_neg (Nat.not_lt.mpr hl)

end

/-- Settles O49: whether the log has room and whether its notice goes out decide the state, and the notice's fields stand where its
layout puts them. -/
theorem recordsAreStoredAndNoticedOrCounted : Obligations.RecordsAreStoredAndNoticedOrCounted := by
  intro s r q b stored notice
  refine ⟨fun hl hn hu => ?noticed, fun hl hn => ?unnoticed, fun hl => ?full, noticePacket_kind _ _ _,
    noticePacket_sequence _ _ _, noticePacket_recordKind _ _ _, ?port⟩
  case noticed => rw [State.hand_of_noticed hl hn hu, ErrorLog.take_of_room hl, State.modPort_eq_withPort]; rfl
  case unnoticed => rw [State.hand_of_unnoticed hl hn, ErrorLog.take_of_room hl]
  case full => rw [State.hand_of_full hl, ErrorLog.take_of_full hl]; rfl
  case port => exact (congrArg BitVec.toNat (noticePacket_port _ _ _)).trans (portField_toNat _)

end Sys2Proof.Machine
end

section
/-! What one command can do, said once: the outcomes of an advance, of a packet from M or X and of a credit grant, and the effect of
every command as one of a few kinds of event. The statements about what every step keeps are case splits on these. -/

namespace Sys2Proof.Machine

/-! ### One advance of a head (R52) -/

/-- A head that waits here got past step 3, so its port's barrier was released (R52, R57). -/
abbrev Progress.PastBarrier (g : Progress) : Prop := g = .waitRoom ∨ g = .waitX ∨ g = .waitPwq

/-- The head is past step 4 (R57, R58): it waits past it, or it passes steps 1 to 4 now. -/
def State.PastTags (s : State) (p : Port) (r : Request) : Prop :=
  (s.ports.get p).progress.PastBarrier
    ∨ (s.ports.get p).barrier = false ∧ (r.posted = true ∨ r.needsRoom = true)
      ∧ (r.needsRoom = true → s.tagLive p r.tag = false)

/-- What an advance can do with the head of a port. -/
inductive State.HeadOutcome (s : State) (p : Port) (r : Request) : Event → Prop
  | nothing : s.HeadOutcome p r (s, [])
  | answered (st : Status) : s.HeadOutcome p r (s.answerHead p r st)
  | dropped (kind : RecordKind) (c : Option Classification) : s.HeadOutcome p r (s.dropHead p r kind c)
  | duplicate (record : ErrorRecord) : s.HeadOutcome p r (s.modPort p (·.leave), [record])
  | parked (g : Progress) (hg : ¬g.PastBarrier) : s.HeadOutcome p r (s.waitHead p g none)
  | waits (g : Progress) (c : Option Classification) (h : s.PastTags p r) : s.HeadOutcome p r (s.waitHead p g c)
  | read (a : BitVec 36) (c : Classification) (h : s.PastTags p r) (hr : s.RoomFor p) (hk : r.kind ≠ .write) :
    s.HeadOutcome p r (s.dispatchRead p r a c)
  | write (a : BitVec 36) (c : Classification) (h : s.PastTags p r) (hr : r.posted = true ∨ s.RoomFor p)
    (hk : r.kind = .write) : s.HeadOutcome p r (s.dispatchWrite p r a c)
  | flush (h : s.PastTags p r) (hr : s.RoomFor p) (hk : r.kind = .flush) : s.HeadOutcome p r (s.dispatchFlush p r)

/-- What an advance can do: nothing, or an outcome of the head that stands at an UP port. -/
def State.Advancing (s : State) (p : Port) (e : Event) : Prop :=
  e = (s, []) ∨ ∃ r rest, (s.ports.get p).state = .up ∧ (s.ports.get p).ingress = r :: rest ∧ s.HeadOutcome p r e

section
variable {s : State} {p : Port} {r : Request}

theorem Request.posted_eq_false_of_kind (hk : r.kind ≠ .write) : r.posted = false := by
  simp [Request.posted, hk]

theorem State.dispatch_outcome (c : Classification) (h : s.PastTags p r) (hr : r.posted = true ∨ s.RoomFor p) :
    s.HeadOutcome p r (s.dispatch p r c) := by
  unfold State.dispatch
  split
  · next a _ =>
    by_cases hk : r.kind = .write
    · rw [if_pos hk]
      exact .write a c h hr hk
    · rw [if_neg hk]
      exact .read a c h (hr.resolve_left (by simp [Request.posted_eq_false_of_kind hk])) hk
  · exact .waits .waitX _ h
  · exact .nothing

theorem State.stepAccess_outcome (c : Classification) (h : s.PastTags p r) (hr : r.posted = true ∨ s.RoomFor p) :
    s.HeadOutcome p r (s.stepAccess p r c) := by
  unfold State.stepAccess
  split
  · split
    · exact State.dispatch_outcome c h hr
    · split
      · exact .dropped _ _
      · exact .answered _
  · split
    · exact .dropped _ _
    · exact .answered _
  · split
    · exact .dropped _ _
    · exact .answered _

theorem State.stepClassify_outcome (h : s.PastTags p r) (hr : r.posted = true ∨ s.RoomFor p) :
    s.HeadOutcome p r (s.stepClassify p r) := by
  unfold State.stepClassify
  split
  · next hk => exact .flush h (hr.resolve_left (by simp [Request.posted_eq_false_of_kind (r := r) (by simp [hk])])) hk
  · exact State.stepAccess_outcome _ h hr

/-- A well-formed request that is no control request is a posted write or takes a tracker entry (R35). -/
theorem Request.posted_or_needsRoom (hm : r.malformed = false) (hc : r.kind.isControl = false) :
    r.posted = true ∨ r.needsRoom = true := by
  cases hk : r.kind with
  | unknown code => simp [Request.malformed_of_unknown hk] at hm
  | ctrlRead | ctrlWrite | ctrlAction => simp [hk, ReqKind.isControl] at hc
  | read | flush => simp [Request.needsRoom, hk]
  | write => cases ha : r.ack <;> simp [Request.needsRoom, Request.posted, hk, ha]

theorem State.stepFormat_outcome : s.HeadOutcome p r (s.stepFormat p r) := by
  unfold State.stepFormat
  split
  · unfold State.stepMalformed
    split
    · split
      · exact .parked _ (by simp)
      · exact .dropped _ _
    · exact .answered _
  · next hm =>
    split
    · exact .parked _ (by simp)
    · next hc =>
      unfold State.stepBarrier
      split
      · exact .parked _ (by simp)
      · next hb =>
        unfold State.stepTag
        split
        · exact .duplicate _
        · next ht =>
          have hkind := Request.posted_or_needsRoom (r := r) (by simpa using hm) (by simpa using hc)
          have hpast : s.PastTags p r := .inr ⟨by simpa using hb, hkind, fun hn => by simpa [hn] using ht⟩
          unfold State.stepRoom
          split
          · exact .waits _ _ hpast
          · next hr =>
            exact State.stepClassify_outcome hpast
              (hkind.imp_right fun hn => State.room_eq_true.mp (by simpa [hn] using hr))

/-- The advance of a port's head is one of these (R52). -/
theorem State.advance_advancing (s : State) (p : Port) : s.Advancing p (s.advance p) := by
  unfold State.advance
  dsimp only
  split
  · next r rest hs hi =>
    refine .inr ⟨r, rest, hs, hi, ?_⟩
    split
    · exact State.stepFormat_outcome
    · split
      · exact .nothing
      · exact State.stepFormat_outcome
    · next hg =>
      split
      · next hr => exact State.stepClassify_outcome (.inl (.inl hg)) (.inr (State.room_eq_true.mp hr))
      · exact .nothing
    · next hg =>
      unfold State.offerAgain
      split
      · split
        · next h =>
          rw [Bool.and_eq_true, Bool.or_eq_true, State.room_eq_true] at h
          exact State.dispatch_outcome _ (.inl (.inr (.inr hg))) h.2
        · exact .nothing
      · exact .nothing
    · exact .nothing
    · exact .nothing
  · exact .inl rfl

end

/-! ### Credit grants (R149 to R153) -/

/-- A credit candidate, written out (R149). -/
theorem State.creditCandidate_eq_some {s : State} {p : Port} {r : Request} {c : Classification} {a : BitVec 40} :
    s.creditCandidate p = some (r, c, a) ↔
      (s.ports.get p).state = .up ∧ (s.ports.get p).ingress.head? = some r ∧ (s.ports.get p).progress = .waitX
        ∧ (s.ports.get p).cls = some c ∧ c.dest = some (.extension a)
        ∧ (r.posted = true ∨ (s.freeXtag.isSome = true ∧ s.RoomFor p)) := by
  unfold State.creditCandidate
  dsimp only
  rw [← State.room_eq_true]
  constructor
  · intro h
    split at h
    · next hs hg hi hc =>
      split at h
      · next hd =>
        simp only [Option.ite_none_right_eq_some, Option.some.injEq, Prod.mk.injEq, Bool.or_eq_true, Bool.and_eq_true] at h
        obtain ⟨hok, rfl, rfl, rfl⟩ := h
        exact ⟨hs, by simp [hi], hg, hc, hd, hok⟩
      · cases h
    · cases h
  · rintro ⟨hs, hi, hg, hc, hd, hok⟩
    obtain ⟨rest, hi⟩ := State.ingress_of_head hi
    simp [hs, hg, hi, hc, hd, hok]

/-- What a credit grant can do, beside nothing. -/
inductive State.CreditOutcome (s : State) : Event → Prop
  | posted {p : Port} {r : Request} {c : Classification} {a : BitVec 40} (h : s.creditCandidate p = some (r, c, a))
    (hr : r.posted = true) : s.CreditOutcome (s.forwardPosted p r c a, [])
  | tracked {p : Port} {r : Request} {c : Classification} {a : BitVec 40} {x : Fin 8}
    (h : s.creditCandidate p = some (r, c, a)) (hp : r.posted = false) (hr : s.RoomFor p) (hx : s.freeXtag = some x) :
    s.CreditOutcome (s.forwardTracked p r c a x, [])

theorem State.grantCredit_outcome (s : State) :
    s.grantCredit = (s, []) ∨ s.ext.link = .up ∧ 0 < s.ext.credits ∧ s.CreditOutcome s.grantCredit := by
  unfold State.grantCredit
  split
  · next hl =>
    split
    · next p r c a h =>
      obtain ⟨q, -, hq⟩ := List.exists_of_findSome?_eq_some h
      obtain ⟨x, hc, he⟩ := Option.map_eq_some_iff.mp hq
      cases he
      split
      · next hr => exact .inr ⟨hl.1, hl.2, .posted hc hr⟩
      · next hr =>
        split
        · next x hx =>
          obtain ⟨-, -, -, -, -, hok⟩ := State.creditCandidate_eq_some.mp hc
          exact .inr ⟨hl.1, hl.2, .tracked hc (by simpa using hr) (hok.resolve_left hr).2 hx⟩
        · exact .inl rfl
    · exact .inl rfl
  · exact .inl rfl

/-! ### Events that may let requests leave -/

/-- What an event that may let requests leave can do, beside a service of the Engine. -/
inductive State.Leaving (s : State) : Event → Prop
  | nothing (rs : List ErrorRecord) : s.Leaving (s, rs)
  | enqueued (p : Port) (r : Request) (hs : (s.ports.get p).state = .up) (hi : (s.ports.get p).ingress.length < 8) :
    s.Leaving (s.modPort p (·.enqueue r), [])
  | discarded (p : Port) (hs : (s.ports.get p).state = .disabled) : s.Leaving (s.modPort p (·.discardArrival), [])
  | advanced (p : Port) (e : Event) (h : s.Advancing p e) : s.Leaving e
  | forwarded (e : Event) (hl : s.ext.link = .up) (hc : 0 < s.ext.credits) (h : s.CreditOutcome e) : s.Leaving e
  | lostM : s.Leaving s.loseM
  | lostX : s.Leaving s.loseX

theorem State.fromUpstream_leaving (s : State) (p : Port) (pkt : Packet) : s.Leaving (s.fromUpstream p pkt) := by
  unfold State.fromUpstream State.arrive
  dsimp only
  split
  · split
    · exact .nothing _
    · next hs => exact .discarded p hs
    · next hs =>
      split
      · next hi => exact .enqueued p _ hs hi
      · exact .nothing _
  · exact .nothing _

theorem State.grantCredit_leaving (s : State) : s.Leaving s.grantCredit := by
  obtain h | ⟨hl, hc, h⟩ := s.grantCredit_outcome
  · rw [h]; exact .nothing _
  · exact .forwarded _ hl hc h

/-! ### Events that let no request leave -/

/-- What an event that lets no request leave can do, beside the readiness and the loss of an upstream link. -/
inductive State.Staying (s : State) : Event → Prop
  | nothing (rs : List ErrorRecord) : s.Staying (s, rs)
  | readyM : s.Staying ({ s with sched := { s.sched with link := .up } }, [])
  | readyX : s.Staying ({ s with ext := { s.ext with link := .up } }, [])
  | granted (d : Fin 8) (how : Deciding) (w : Winner) (hd : s.freeDtag = some d) (h : s.decision = some (how, w)) :
    s.Staying (s.grant d how w, [])
  | lateM (d : Fin 8) (hd : s.sched.dtags[d] = .stale) : s.Staying (s.lateM d, [])
  | readEnds (d : Fin 8) (i : Fin 24) (n : Nat) (e : TrackerEntry) (r : MemResp) (hd : s.sched.dtags[d] = .read i n)
    (he : s.entryAt i = some e) : s.Staying (s.takeRead d e r)
  | writeEnds (d : Fin 8) (slot : Fin 16) (q : PwqEntry) (r : MemResp) (hd : s.sched.dtags[d] = .write slot)
    (hq : s.pwqAt slot = some q) : s.Staying (s.takePwq d q r)
  | sweepEnds (d : Fin 8) (row : BitVec 20) (timer : Nat) (r : MemResp) (hd : s.sched.dtags[d] = .sweep row timer) :
    s.Staying (s.takeSweep d row r)
  | lateX (x : Fin 8) (hx : s.ext.xtags[x] = .stale) : s.Staying (s.lateX x, [])
  | accessEnds (i : Fin 24) (e : TrackerEntry) (c : XCompletion) (hx : s.ext.xtags[c.xtag] = .allocated i)
    (he : s.entryAt i = some e) : s.Staying (s.takeX e c)
  | credited (n : Nat) (hl : s.ext.link = .up) :
    s.Staying ({ s with ext := { s.ext with credits := min 8 (s.ext.credits + n) } }, [])
  | sealExpires : s.Staying (s.sealWhere fun _ => true, [])
  | writeExpires (slot : Fin 16) (q : PwqEntry) (d : Fin 8) (timer : Nat) (hq : s.pwqAt slot = some q)
    (hs : q.state = .issued d timer) : s.Staying ((s.setDtag d .stale).removePwq q .timeout (some .writeTimeout))
  | entryExpires (i : Fin 24) (e : TrackerEntry) (tag : Fin 8) (ep : Bool) (timer : Nat) (he : s.entryAt i = some e)
    (hs : e.state = .issued tag ep timer) :
    s.Staying ((s.staleTag e tag).endEntry e .timeout [], e.failure .readTimeout .writeTimeout)
  | sweepExpires (d : Fin 8) (row : BitVec 20) (timer : Nat) (hd : s.sched.dtags[d] = .sweep row timer)
    (rs : List ErrorRecord) : s.Staying (s.setDtag d .stale, rs)
  | period (ht : s.sweep.timer ≠ none) (rs : List ErrorRecord) : s.Staying (s.beginSweepPeriod, rs)
  | rowQueued (ht : s.sweep.timer ≠ none) (hq : s.sweep.queue.length < 4) :
    s.Staying ({ s.beginSweepPeriod with sweep := s.beginSweepPeriod.sweep.queueRow }, [])

section
variable (s : State)

theorem State.judgeM_staying (r : MemResp) : s.Staying (s.judgeM r) := by
  unfold State.judgeM
  split
  · exact .nothing _
  · split
    · exact .nothing _
    · next hd => exact .lateM _ hd
    · next i n hd =>
      split
      · next e he =>
        by_cases hc : r.carries (if r.result.ok then n else 0) = true
        · rw [if_pos hc]; exact .readEnds _ i n e r hd he
        · rw [if_neg hc]; exact .nothing _
      · exact .nothing _
    · next slot hd =>
      split
      · next q hq =>
        split
        · exact .writeEnds _ slot q r hd hq
        · exact .nothing _
      · exact .nothing _
    · next row timer hd =>
      split
      · exact .sweepEnds _ row timer r hd
      · exact .nothing _

theorem State.fromM_staying (pkt : Packet) : s.Staying (s.fromM pkt) := by
  unfold State.fromM
  split
  · exact .nothing _
  · split
    · exact s.judgeM_staying _
    · exact .nothing _

theorem State.judgeX_staying (c : XCompletion) : s.Staying (s.judgeX c) := by
  unfold State.judgeX
  split
  · exact .nothing _
  · split
    · exact .nothing _
    · split
      · exact .nothing _
      · next hx => exact .lateX _ hx
      · next i hx =>
        split
        · next e he =>
          split
          · exact .accessEnds i e c hx he
          · exact .nothing _
        · exact .nothing _

theorem State.fromX_staying (pkt : Packet) : s.Staying (s.fromX pkt) := by
  unfold State.fromX
  split
  · exact .nothing _
  · next hl =>
    have hup : s.ext.link = .up := by cases h : s.ext.link <;> simp_all
    split
    · exact s.judgeX_staying _
    · split
      · unfold State.creditX
        split
        · exact .credited _ hup
        · exact .nothing _
      · exact .nothing _

theorem State.arbitrate_staying : s.Staying (s.arbitrate, []) := by
  unfold State.arbitrate
  split
  · next d how w _ hd h => exact .granted d how w hd h
  · exact .nothing _

theorem State.expirePwq_staying (slot : Fin 16) : s.Staying (s.expirePwq slot) := by
  unfold State.expirePwq
  split
  · next q hq =>
    split
    · next d timer hs => exact .writeExpires slot q d timer hq hs
    · exact .nothing _
    · exact .nothing _
  · exact .nothing _

theorem State.expireEntry_staying (i : Fin 24) : s.Staying (s.expireEntry i) := by
  unfold State.expireEntry
  split
  · next e he =>
    split
    · next tag ep timer hs => exact .entryExpires i e tag ep timer he hs
    all_goals exact .nothing _
  · exact .nothing _

theorem State.expireSweep_staying (d : Fin 8) : s.Staying (s.expireSweep d) := by
  unfold State.expireSweep
  split
  · next row timer hd => exact .sweepExpires d row timer hd _
  all_goals exact .nothing _

theorem State.expireSweepTimer_staying : s.Staying s.expireSweepTimer := by
  by_cases ht : s.sweep.timer = none
  · rw [State.expireSweepTimer, if_pos (by simp [ht])]
    exact .nothing _
  cases hl : s.sched.link with
  | down => rw [State.expireSweepTimer_of_down ht hl]; exact .period ht _
  | up =>
    by_cases hq : s.sweep.queue.length < Config.sweepRows
    · rw [State.expireSweepTimer_of_room ht hl hq]; exact .rowQueued ht hq
    · rw [State.expireSweepTimer_of_full ht hl (Nat.not_lt.mp hq)]; exact .period ht _

end

end Sys2Proof.Machine
end

section
/-! What a service of the Engine can do with the state that the selection left (chapter 10), and with it what every command can do. -/

namespace Sys2Proof.Machine

/-- The outcomes of a service: what it changes, and the range or state that the change was allowed for. -/
inductive State.ServiceOutcome (s : State) (p : Port) (r : Request) : CtrlRow → Served → Prop
  | unchanged {row : CtrlRow} (st : Status) (v : Word64) : s.ServiceOutcome p r row { state := s, status := st, value := v }
  | regionMap {row : CtrlRow} (m : RegionMap) (st : Status) (v : Word64) :
    s.ServiceOutcome p r row { state := { s with regionMap := m }, status := st, value := v }
  | windowState {row : CtrlRow} (w : WindowState) (st : Status) (v : Word64) (rs : List ErrorRecord) :
    s.ServiceOutcome p r row
      { state := { s with window := { s.window with state := w } }, status := st, value := v, records := rs }
  | descriptor {row : CtrlRow} (d : WindowDesc) (hd : WindowDesc.ofWord r.value = some d) :
    s.ServiceOutcome p r row { state := { s with window := { s.window with desc := d } }, status := .ok }
  | popped {row : CtrlRow} (v : Word64) :
    s.ServiceOutcome p r row
      { state := { s with log := { s.log with records := s.log.records.tail } }, status := .ok, value := v }
  | cleared {row : CtrlRow} (v : Word64) :
    s.ServiceOutcome p r row
      { state := { s with log := { s.log with records := [], overflow := 0 } }, status := .ok, value := v }
  | notices {row : CtrlRow} (q : Port) (on : Bool) :
    s.ServiceOutcome p r row
      { state := { s with log := { s.log with noticePort := q, noticeEnable := on } }, status := .ok }
  | disabled {row : CtrlRow} (q : Port) (hs : (s.ports.get q).state = .up) (v : Word64) :
    s.ServiceOutcome p r row { state := s.modPort q (·.disable), status := .ok, value := v }
  | enabled {row : CtrlRow} (q : Port) (hs : (s.ports.get q).state = .disabled) (v : Word64) :
    s.ServiceOutcome p r row { state := s.modPort q (·.enable), status := .ok, value := v }
  | rights (q : Port) (rights : Rights) (hv : Rights.ofValue r.value = some rights) (hq : r.index = q.code) (e : Event)
    (he : (s.modPort q fun b => { b with rights := rights }).Advancing q e) :
    s.ServiceOutcome p r .portRightsWrite { state := e.1, status := .ok, records := e.2 }
  | favoured {row : CtrlRow} (f : Option Port) :
    s.ServiceOutcome p r row
      { state := { s with sched := { s.sched with favoured := f, slotCounter := 0, hold := none } }, status := .ok }
  | holdBudget {row : CtrlRow} (n : Nat) (hn : 1 ≤ n ∧ n ≤ 15) :
    s.ServiceOutcome p r row { state := { s with sched := { s.sched with holdBudget := n } }, status := .ok }
  | watermark {row : CtrlRow} (n : Nat) (hn : 4 ≤ n ∧ n ≤ 16) :
    s.ServiceOutcome p r row { state := { s with pwq := { s.pwq with watermark := n } }, status := .ok }
  | combineWindow {row : CtrlRow} (n : Nat) (hn : n ≤ 255) (es : List PwqEntry)
    (hes : es = s.pwq.entries ∨ es = s.pwq.entries.map PwqEntry.seal) :
    s.ServiceOutcome p r row
      { state := { s with pwq := { s.pwq with combineWindow := n, entries := es } }, status := .ok }
  | timeoutM {row : CtrlRow} (n : Nat) (hn : 1 ≤ n ∧ n ≤ 1023) :
    s.ServiceOutcome p r row { state := { s with tracker := { s.tracker with timeoutM := n } }, status := .ok }
  | timeoutX {row : CtrlRow} (n : Nat) (hn : 1 ≤ n ∧ n ≤ 65535) :
    s.ServiceOutcome p r row { state := { s with tracker := { s.tracker with timeoutX := n } }, status := .ok }
  | sweepInterval {row : CtrlRow} (n : Nat) (hn : n ≤ 65535) :
    s.ServiceOutcome p r row
      { state := { s with sweep := { s.sweep with interval := n, timer := sweepPeriod n } }, status := .ok }
  | sweepRows {row : CtrlRow} (n : Nat) (hn : 1 ≤ n ∧ n ≤ 2 ^ 20) :
    s.ServiceOutcome p r row
      { state := { s with sweep := { s.sweep with rows := n, row := if n ≤ s.sweep.row then 0 else s.sweep.row } }
        status := .ok }
  | warmReset {row : CtrlRow} : s.ServiceOutcome p r row (serveWarmReset p r s)

section
variable (s : State) (p : Port) (r : Request)

theorem State.windowTo_outcome {row : CtrlRow} (w : WindowState) (st : Status) :
    s.ServiceOutcome p r row (s.windowTo p r w st) := by
  unfold State.windowTo
  split
  · exact .unchanged _ _
  · exact .windowState _ _ _ _

theorem servePortRights_outcome : s.ServiceOutcome p r .portRightsWrite (servePortRights p r s) := by
  unfold servePortRights
  split
  · next rights q hv hq =>
    have hcode : r.index = q.code := by
      unfold Port.ofCode at hq
      split at hq <;> cases hq <;> assumption
    dsimp only
    split
    · split
      · exact .rights q rights hv hcode _ (State.advance_advancing _ q)
      · exact .rights q rights hv hcode _ (.inl rfl)
    · exact .unchanged _ _
  · exact .unchanged _ _

theorem serveObject_outcome : s.ServiceOutcome p r .object (serveObject p r s) := by
  unfold serveObject
  split
  · exact .unchanged _ _
  · next o _ =>
    split
    · split
      · next t h =>
        cases o with
        | holdBudget | watermark | timeoutM | timeoutX =>
          simp only [State.writeSetting, Option.ite_none_right_eq_some, Option.some.injEq] at h
          obtain ⟨hn, rfl⟩ := h
          constructor
          exact hn
        | noticeEnable =>
          simp only [State.writeSetting, Option.ite_none_right_eq_some, Option.some.injEq] at h
          obtain ⟨-, rfl⟩ := h
          exact .notices s.log.noticePort _
        | noticePort =>
          obtain ⟨q, -, rfl⟩ := Option.map_eq_some_iff.mp h
          exact .notices q s.log.noticeEnable
        | _ => cases h
      · exact .unchanged _ _
    · exact .unchanged _ _

/-- Every service has one of the outcomes above. -/
theorem CtrlRow.service_outcome (row : CtrlRow) : s.ServiceOutcome p r row (row.service p r s) := by
  cases row <;> dsimp only [CtrlRow.service]
  case commit =>
    unfold serveCommit
    split
    · exact .unchanged _ _
    · exact .regionMap _ _ _
  case stageFromActive => exact .regionMap _ _ _
  case regionStagedWrite =>
    unfold serveRegionStaged
    dsimp only
    split
    · exact .unchanged _ _
    · split
      · exact .unchanged _ _
      · exact .regionMap _ _ _
  case defaultTargetStagedWrite =>
    unfold serveDefaultStaged
    split
    · exact .unchanged _ _
    · exact .regionMap _ _ _
  case windowOpen =>
    unfold serveWindowOpen
    split <;> exact s.windowTo_outcome p r _ _
  case windowClose =>
    unfold serveWindowClose
    split <;> exact s.windowTo_outcome p r _ _
  case windowLock => exact s.windowTo_outcome p r _ _
  case windowWrite =>
    unfold serveWindow
    split
    · exact .unchanged _ _
    · exact .unchanged _ _
    · split
      · exact .unchanged _ _
      · next d hd => exact .descriptor d hd
  case logPop => exact .popped _
  case logClear => exact .cleared _
  case portDisable =>
    unfold servePortDisable
    split
    · exact .unchanged _ _
    · split
      · exact .unchanged _ _
      · split
        · next hs => exact .disabled _ hs _
        · exact .unchanged _ _
        · exact .unchanged _ _
  case portEnable =>
    unfold servePortEnable
    split
    · exact .unchanged _ _
    · split
      · exact .unchanged _ _
      · next hs => exact .enabled _ hs _
      · exact .unchanged _ _
  case warmReset => exact .warmReset
  case portRightsWrite => exact servePortRights_outcome s p r
  case favouredWrite =>
    unfold serveFavoured
    dsimp only
    split
    · exact .unchanged _ _
    · split
      · exact .unchanged _ _
      · exact .favoured _
  case combineWindowWrite =>
    unfold serveCombineWindow
    dsimp only
    split
    · exact .unchanged _ _
    · next hn =>
      split
      · exact .combineWindow _ (Nat.not_lt.mp hn) _ (.inr rfl)
      · exact .combineWindow _ (Nat.not_lt.mp hn) _ (.inl rfl)
  case sweepIntervalWrite =>
    unfold serveSweepInterval
    dsimp only
    split
    · exact .unchanged _ _
    · next hn => exact .sweepInterval _ (Nat.not_lt.mp hn)
  case sweepRowsWrite =>
    unfold serveSweepRows
    dsimp only
    split
    · exact .unchanged _ _
    · next hn => exact .sweepRows _ (by omega)
  case object => exact serveObject_outcome s p r

end

/-! ### Every command -/

/-- What a command can do: a cold reset, the readiness or loss of an upstream link, a selection of the Engine, or an event of the two
kinds above to its end. -/
inductive State.Effect (s : State) : Instr → State → Prop
  | reset : s.Effect .coldReset { State.reset with pending := s.pending }
  | linkReady (p : Port) (hs : (s.ports.get p).state = .down) : s.Effect (.portLinkReady p) (s.modPort p (·.linkReady))
  | linkLost (p : Port) (hs : (s.ports.get p).state ≠ .down) (rs : List ErrorRecord) :
    s.Effect (.portLinkLost p) (Event.record ((s.modPort p (·.linkLost)).orphanPort p, rs))
  | unserved (i : Instr) (p : Port) (r : Request) (st : Status) (hw : s.engineWinner = some (p, r)) :
    s.Effect i (Event.close (({ state := s.select p, status := st } : Served).reply p r.tag))
  | served (row : CtrlRow) (p : Port) (r : Request) (v : Served) (hw : s.engineWinner = some (p, r)) (hr : r.row = row)
    (hc : r.checks (s.ports.get p).rights = none) (hv : (s.select p).ServiceOutcome p r row v) :
    s.Effect row.command (Event.close (v.reply p r.tag))
  | leaving (i : Instr) (e : Event) (h : s.Leaving e) : s.Effect i (Event.close e)
  | staying (i : Instr) (e : Event) (h : s.Staying e) : s.Effect i (Event.record e)

theorem State.effect_same (s : State) (i : Instr) : s.Effect i s := .staying i (s, []) (.nothing [])

/-- Every command has one of the effects above. -/
theorem exec_effect {i : Instr} {s t : State} (h : exec i s = .next t) : s.Effect i t := by
  cases hrow : CtrlRow.ofCommand i with
  | some row =>
    rw [CtrlRow.eq_command_of_ofCommand hrow] at h ⊢
    rw [exec_command] at h
    cases h
    obtain ⟨-, he⟩ | ⟨p, r, hw, hr, ⟨st, -, he⟩ | ⟨hc, he⟩⟩ := s.serve_cases row row.service
    · rw [he]; exact .leaving _ _ (.nothing _)
    · rw [he]; exact .unserved _ p r st hw
    · rw [he]; exact .served row p r _ hw hr hc (row.service_outcome _ p r)
  | none =>
    cases i with
    | coldReset => cases h; exact .reset
    | portLinkReady p =>
      change execPortLinkReady p s = _ at h
      unfold execPortLinkReady at h
      split at h <;> cases h
      · next hs => exact .linkReady p hs
      · exact s.effect_same _
    | portLinkLost p =>
      change execPortLinkLost p s = _ at h
      unfold execPortLinkLost at h
      split at h <;> cases h
      · exact s.effect_same _
      · next hs => exact .linkLost p hs _
    | mLinkLost =>
      change execMLinkLost s = _ at h
      unfold execMLinkLost at h
      split at h <;> cases h
      · exact s.effect_same _
      · exact .leaving _ _ .lostM
    | xLinkLost =>
      change execXLinkLost s = _ at h
      unfold execXLinkLost at h
      split at h <;> cases h
      · exact s.effect_same _
      · exact .leaving _ _ .lostX
    | mLinkReady => cases h; exact .staying _ _ .readyM
    | xLinkReady => cases h; exact .staying _ _ .readyX
    | arrival p pkt => cases h; exact .leaving _ _ (s.fromUpstream_leaving p pkt)
    | packetOutOfPlace l pkt =>
      cases l with
      | up p => cases h; exact .leaving _ _ (s.fromUpstream_leaving p pkt)
      | m => cases h; exact .staying _ _ (s.fromM_staying pkt)
      | x => cases h; exact .staying _ _ (s.fromX_staying pkt)
    | admissionAdvance p => cases h; exact .leaving _ _ (.advanced p _ (s.advance_advancing p))
    | creditGrant => cases h; exact .leaving _ _ s.grantCredit_leaving
    | arbitration => cases h; exact .staying _ _ s.arbitrate_staying
    | memResp pkt => cases h; exact .staying _ _ (s.fromM_staying pkt)
    | xCompletion pkt => cases h; exact .staying _ _ (s.fromX_staying pkt)
    | xCredit pkt => cases h; exact .staying _ _ (s.fromX_staying pkt)
    | sealTimerExpiry => cases h; exact .staying _ _ .sealExpires
    | pwqResponseTimerExpiry slot => cases h; exact .staying _ _ (s.expirePwq_staying slot)
    | responseTimerExpiry i => cases h; exact .staying _ _ (s.expireEntry_staying i)
    | sweepResponseTimerExpiry d => cases h; exact .staying _ _ (s.expireSweep_staying d)
    | sweepTimerExpiry => cases h; exact .staying _ _ s.expireSweepTimer_staying
    | _ => cases hrow

/-- A property that every command keeps, whatever waits, is kept by every step. -/
theorem step_keeps {P : State → Prop} (hpending : ∀ s rest, P s → P { s with pending := rest })
    (hexec : ∀ i s t, P s → exec i s = .next t → P t) {s t : State} (hs : P s) (h : step s = .next t) : P t := by
  unfold step at h
  split at h
  · cases h; exact hs
  · exact hexec _ _ t (hpending s _ hs) h

end Sys2Proof.Machine
end

section
/-! What the events do to the upstream ports: each port's block goes through a few kinds of change. -/

namespace Sys2Proof.Machine

/-! ### The changes of one block -/

/-- What the end of work does to a block: completions, the posted-error flag, the barrier released. -/
inductive PortBlock.Answer : PortBlock → PortBlock → Prop
  | complete (b : PortBlock) (tag : BitVec 8) (st : Status) (v : Option Word64) (data : List Byte) :
    Answer b (b.complete tag st v data)
  | flag (b : PortBlock) (x : Bool) : Answer b { b with postedError := x }
  | release (b : PortBlock) : Answer b { b with barrier := false }

/-- What an event that may let requests leave does to a block beside that. -/
inductive PortBlock.Move : PortBlock → PortBlock → Prop
  | answer {b b' : PortBlock} (h : b.Answer b') : Move b b'
  | leave {b : PortBlock} (h : b.ingress ≠ []) : Move b b.leave
  | wait (b : PortBlock) (g : Progress) (c : Option Classification) : Move b (b.wait g c)
  | hold {b : PortBlock} (h : b.progress = .examine) : Move b { b with barrier := true }
  | disable {b : PortBlock} (h : b.state = .up) : Move b b.disable
  | empty (b : PortBlock) : Move b { b.emptyIngress with owed := b.owed + b.ingress.length }

/-- What the arrival of a request does to a block (R40, R45). -/
inductive PortBlock.Arrival : PortBlock → PortBlock → Prop
  | enqueue {b : PortBlock} (r : Request) (hs : b.state = .up) (hi : b.ingress.length < 8) : Arrival b (b.enqueue r)
  | discard {b : PortBlock} (hs : b.state = .disabled) : Arrival b b.discardArrival

/-- Changes of the first kind, one after the other. -/
abbrev PortBlock.Answers : PortBlock → PortBlock → Prop := Relation.ReflTransGen PortBlock.Answer

/-- Changes of either kind, one after the other. -/
abbrev PortBlock.Moves : PortBlock → PortBlock → Prop := Relation.ReflTransGen PortBlock.Move

theorem PortBlock.Answers.moves {b b' : PortBlock} (h : b.Answers b') : b.Moves b' :=
  Relation.ReflTransGen.mono (fun _ _ hstep => .answer hstep) _ _ h

/-- A property that every change keeps is kept by any number of them. -/
theorem PortBlock.Moves.keeps {P : PortBlock → Prop} {b b' : PortBlock} (h : b.Moves b')
    (hP : ∀ c c', P c → c.Move c' → P c') (hb : P b) : P b' := by
  induction h with
  | refl => exact hb
  | tail _ hstep ih => exact hP _ _ ih hstep

theorem PortBlock.Answers.keeps {P : PortBlock → Prop} {b b' : PortBlock} (h : b.Answers b')
    (hP : ∀ c c', P c → c.Answer c' → P c') (hb : P b) : P b' := by
  induction h with
  | refl => exact hb
  | tail _ hstep ih => exact hP _ _ ih hstep

section
variable (b : PortBlock)

theorem PortBlock.endFlush_answers (tag : BitVec 8) : b.Answers (b.endFlush tag) :=
  ((Relation.ReflTransGen.single (.complete b tag _ none [])).tail (.flag _ false)).tail (.release _)

theorem PortBlock.reportFlag_answers (tag : BitVec 8) : b.Answers (b.reportFlag tag) :=
  (Relation.ReflTransGen.single (.complete b tag _ none [])).tail (.flag _ false)

theorem PortBlock.contribute_answers (c : Bool) : b.Answers (b.contribute c) := by
  unfold PortBlock.contribute
  split
  · exact .single (.flag b true)
  · exact .refl

theorem PortBlock.abort_answers (r : Request) : b.Answers (b.abort r) := by
  unfold PortBlock.abort
  split
  · exact .single (.flag b true)
  · exact .single (.complete b _ _ _ _)

theorem PortBlock.abortAll_answers (rs : List Request) : b.Answers (rs.foldl PortBlock.abort b) := by
  induction rs generalizing b with
  | nil => exact .refl
  | cons r rs ih => exact (b.abort_answers r).trans (ih _)

theorem PortBlock.Answer.ingress_eq {b b' : PortBlock} (h : b.Answer b') : b'.ingress = b.ingress := by
  cases h <;> simp [PortBlock.complete_eq]

theorem PortBlock.Answers.ingress_eq {b b' : PortBlock} (h : b.Answers b') : b'.ingress = b.ingress :=
  h.keeps (P := fun c => c.ingress = b.ingress) (fun _ _ hc hstep => hstep.ingress_eq.trans hc) rfl

theorem PortBlock.warmReset_moves : b.Moves b.warmReset := by
  have h := b.abortAll_answers b.ingress
  have howed : (b.ingress.foldl PortBlock.abort b).owed = b.owed :=
    h.keeps (P := fun c => c.owed = b.owed) (fun _ _ hc hstep => by cases hstep <;> simpa [PortBlock.complete_eq] using hc) rfl
  have hend := ((h.moves.tail (.empty _)).tail (.answer (.release _)))
  rw [h.ingress_eq, howed] at hend
  exact hend

theorem PortBlock.answer_moves {b : PortBlock} (h : b.ingress ≠ []) (r : Request) (st : Status) : b.Moves (b.answer r st) :=
  (Relation.ReflTransGen.single (.answer (.complete b r.tag st r.emptyValue []))).tail
    (.leave (by simpa [PortBlock.complete_eq] using h))

theorem PortBlock.dropPosted_moves {b : PortBlock} (h : b.ingress ≠ []) : b.Moves b.dropPosted :=
  (Relation.ReflTransGen.single (.answer (.flag b true))).tail (.leave h)

end

/-! ### The changes of all blocks -/

/-- Every port's block goes through changes of the first kind. -/
def PerPort.Answers (x y : PerPort PortBlock) : Prop := ∀ p, (x.get p).Answers (y.get p)

/-- Every port's block goes through changes of either kind. -/
def PerPort.Moves (x y : PerPort PortBlock) : Prop := ∀ p, (x.get p).Moves (y.get p)

theorem PerPort.Answers.refl (x : PerPort PortBlock) : x.Answers x := fun _ => .refl

theorem PerPort.Moves.refl (x : PerPort PortBlock) : x.Moves x := fun _ => .refl

theorem PerPort.Answers.trans {x y z : PerPort PortBlock} (h : x.Answers y) (h' : y.Answers z) : x.Answers z :=
  fun p => (h p).trans (h' p)

theorem PerPort.Moves.trans {x y z : PerPort PortBlock} (h : x.Moves y) (h' : y.Moves z) : x.Moves z :=
  fun p => (h p).trans (h' p)

theorem PerPort.Answers.moves {x y : PerPort PortBlock} (h : x.Answers y) : x.Moves y := fun p => (h p).moves

theorem PerPort.Answers.of_eq {x y : PerPort PortBlock} (h : y = x) : x.Answers y := h ▸ .refl x

theorem PerPort.Moves.of_eq {x y : PerPort PortBlock} (h : y = x) : x.Moves y := h ▸ .refl x

/-- Changes of one port's block. -/
theorem PerPort.answers_mod (x : PerPort PortBlock) (p : Port) {f : PortBlock → PortBlock}
    (h : (x.get p).Answers (f (x.get p))) : x.Answers (x.mod p f) := by
  intro q
  by_cases hq : q = p
  · subst hq; simpa using h
  · rw [PerPort.get_mod_other _ _ hq]

theorem PerPort.moves_mod (x : PerPort PortBlock) (p : Port) {f : PortBlock → PortBlock}
    (h : (x.get p).Moves (f (x.get p))) : x.Moves (x.mod p f) := by
  intro q
  by_cases hq : q = p
  · subst hq; simpa using h
  · rw [PerPort.get_mod_other _ _ hq]

theorem PerPort.answers_foldl {α : Type} {f : PerPort PortBlock → α → PerPort PortBlock} (hf : ∀ y a, PerPort.Answers y (f y a))
    (as : List α) (x : PerPort PortBlock) : x.Answers (as.foldl f x) := by
  induction as generalizing x with
  | nil => exact .refl x
  | cons a as ih => exact (hf x a).trans (ih _)

section
variable (x : PerPort PortBlock)

theorem PerPort.completeEntry_answers (e : TrackerEntry) (st : Status) (data : List Byte) :
    x.Answers (x.completeEntry e st data) := by
  unfold PerPort.completeEntry
  split
  · exact .refl x
  · exact x.answers_mod _ (.single (.complete _ _ _ _ _))

theorem PerPort.completeAll_answers (es : List TrackerEntry) (st : Status) : x.Answers (x.completeAll es st) :=
  PerPort.answers_foldl (fun y e => y.completeEntry_answers e st []) es x

theorem flagContributors_answers (c : PerPort Bool) : x.Answers (flagContributors c x) := fun p => by
  rw [flagContributors, PerPort.get_zip]
  exact PortBlock.contribute_answers _ _

theorem flagAll_answers (qs : List PwqEntry) : x.Answers (flagAll qs x) :=
  PerPort.answers_foldl (f := fun y (q : PwqEntry) => flagContributors q.contributors y)
    (fun y q => flagContributors_answers y q.contributors) qs x

theorem TrackerEntry.endsFlush_answers (gone : Fin 16 → Bool) (e : TrackerEntry) : x.Answers (e.endsFlush gone x) := by
  unfold TrackerEntry.endsFlush
  split
  · exact x.answers_mod _ (PortBlock.endFlush_answers _ _)
  · exact .refl x

end

section
variable (s : State)

/-- The first part of the loss of M: the link is DOWN, the window flipped, and the memory reads are ended (R48, R114). -/
def State.readsLost (s : State) : State :=
  State.endEntries { s with sched := { s.sched.flip with link := .down, hold := none, out := [] } } TrackerEntry.isReadM .targetDown

/-- The second part: the queue is discarded and the sweep queue emptied (R92, R145). -/
def State.queueLost (s : State) : State :=
  { s.readsLost.discardPwq.1 with sweep := { s.readsLost.discardPwq.1.sweep with queue := [] } }

theorem State.loseM_eq :
    s.loseM = State.endWaitingAll .waitPwq [.u0, .u1, .u2, .u3] (s.queueLost, s.readsLost.discardPwq.2) := rfl

/-- The first part of the loss of X: the link is DOWN, the window flipped, the credits gone, and the entries on X are ended (R49,
R115). -/
def State.accessesLost (s : State) : State :=
  State.endEntries { s with ext := { s.ext.flip with link := .down, credits := 0, out := [] } } TrackerEntry.isOnX .targetDown

theorem State.loseX_eq : s.loseX = State.endWaitingAll .waitX [.u0, .u1, .u2, .u3] (s.accessesLost, []) := rfl

theorem State.shrinkFlushes_answers (gone : Fin 16 → Bool) : s.ports.Answers (s.shrinkFlushes gone).ports := by
  simp only [State.shrinkFlushes, shrinkFlushes_eq]
  exact PerPort.answers_foldl (fun y e => TrackerEntry.endsFlush_answers y gone e) _ _

theorem answerOwed_answers (st : Status) (is : List (Fin 24)) : s.ports.Answers (answerOwed st is s).ports := by
  induction is generalizing s with
  | nil => exact .refl _
  | cons i is ih =>
    unfold answerOwed
    cases s.entryAt i with
    | some e => exact (PerPort.completeEntry_answers _ e st []).trans (ih (s.endEntry e st []))
    | none => exact ih s

theorem State.removePwq_answers (q : PwqEntry) (st : Status) (failed : Option RecordKind) :
    s.ports.Answers (s.removePwq q st failed).1.ports := by
  unfold State.removePwq
  refine PerPort.Answers.trans ?_ ((answerOwed_answers _ st q.owed).trans (State.shrinkFlushes_answers _ _))
  split
  · exact flagContributors_answers _ _
  · exact .refl _

theorem State.discardPwq_answers : s.ports.Answers s.discardPwq.1.ports := by
  let flagged : State := { s.withPwq [] with ports := flagAll s.pwq.entries s.ports }
  exact (flagAll_answers s.ports s.pwq.entries).trans
    ((answerOwed_answers flagged .targetDown (s.pwq.entries.flatMap (·.owed))).trans (State.shrinkFlushes_answers _ _))

theorem State.endWaiting_moves (g : Progress) (p : Port) : s.ports.Moves (s.endWaiting g p).1.ports := by
  unfold State.endWaiting
  dsimp only
  split
  · next r rest hi =>
    have hne : (s.ports.get p).ingress ≠ [] := by simp [hi]
    split
    · split
      · exact PerPort.moves_mod _ p (PortBlock.dropPosted_moves hne)
      · exact PerPort.moves_mod _ p (PortBlock.answer_moves hne _ _)
    · exact .refl _
  · exact .refl _

theorem State.endWaitingAll_moves (g : Progress) (ps : List Port) (e : Event) :
    e.1.ports.Moves (State.endWaitingAll g ps e).1.ports := by
  induction ps generalizing e with
  | nil => exact .refl _
  | cons p ps ih =>
    exact (State.endWaiting_moves e.1 g p).trans (ih ((e.1.endWaiting g p).1, e.2 ++ (e.1.endWaiting g p).2))

theorem State.loseM_moves : s.ports.Moves s.loseM.1.ports := by
  rw [State.loseM_eq]
  exact ((s.ports.completeAll_answers _ _).trans (State.discardPwq_answers s.readsLost)).moves.trans
    (State.endWaitingAll_moves _ _ (s.queueLost, s.readsLost.discardPwq.2))

theorem State.loseX_moves : s.ports.Moves s.loseX.1.ports := by
  rw [State.loseX_eq]
  exact (s.ports.completeAll_answers _ _).moves.trans (State.endWaitingAll_moves _ _ (s.accessesLost, []))

end

/-! ### Events -/

section
variable {s : State} {p : Port} {r : Request} {e : Event}

theorem State.takeWrite_ports {t : State} {a : BitVec 36} {c : Classification} {owed : Option (Fin 24)} {slot : Fin 16}
    (h : s.takeWrite p a r c owed = some (t, slot)) : t.ports = s.ports := by
  obtain ⟨_, rfl⟩ | ⟨_, rfl⟩ := State.takeWrite_cases h <;> rfl

theorem State.HeadOutcome.moves (h : s.HeadOutcome p r e) (hi : (s.ports.get p).ingress ≠ []) : s.ports.Moves e.1.ports := by
  have hleave : (s.ports.get p).Moves (s.ports.get p).leave := .single (.leave hi)
  cases h with
  | nothing => exact .refl _
  | answered st => exact PerPort.moves_mod _ p (PortBlock.answer_moves hi _ _)
  | dropped kind c => exact PerPort.moves_mod _ p (PortBlock.dropPosted_moves hi)
  | duplicate => exact PerPort.moves_mod _ p hleave
  | parked g | waits g => exact PerPort.moves_mod _ p (.single (.wait _ _ _))
  | read a c =>
    unfold State.dispatchRead
    split
    · exact PerPort.moves_mod _ p hleave
    · dsimp only
      split
      · exact PerPort.moves_mod _ p
          ((Relation.ReflTransGen.single (.answer (.complete _ _ _ _ _))).tail
            (.leave (by simpa [PortBlock.complete_eq] using hi)))
      · exact PerPort.moves_mod _ p hleave
  | write a c =>
    unfold State.dispatchWrite
    dsimp only
    split
    · exact PerPort.moves_mod _ p (.single (.wait _ _ _))
    · next ht =>
      rw [State.modPort_ports, apply_ite State.ports, State.addEntry_ports, State.takeWrite_ports ht, ite_self]
      exact PerPort.moves_mod _ p hleave
  | flush =>
    unfold State.dispatchFlush
    dsimp only
    split
    · exact PerPort.moves_mod _ p
        ((PortBlock.reportFlag_answers _ _).moves.tail
          (.leave (by simpa [PortBlock.reportFlag, PortBlock.complete_eq] using hi)))
    · exact PerPort.moves_mod _ p (hleave.tail (.hold rfl))

theorem State.Advancing.moves (h : s.Advancing p e) : s.ports.Moves e.1.ports := by
  obtain rfl | ⟨r, rest, -, hi, h⟩ := h
  · exact .refl _
  · exact h.moves (by simp [hi])

theorem State.CreditOutcome.moves (h : s.CreditOutcome e) : s.ports.Moves e.1.ports := by
  cases h with
  | posted hc | tracked hc =>
    obtain ⟨-, hi, -⟩ := State.creditCandidate_eq_some.mp hc
    obtain ⟨rest, hi⟩ := State.ingress_of_head hi
    exact PerPort.moves_mod _ _ (.single (.leave (by simp [hi])))

/-- An event that may let requests leave changes the blocks in the ways above, unless a request arrives. -/
theorem State.Leaving.moves (h : s.Leaving e) :
    s.ports.Moves e.1.ports
      ∨ ∃ p f, (s.ports.get p).Arrival (f (s.ports.get p)) ∧ e = (s.modPort p f, []) := by
  cases h with
  | nothing rs => exact .inl (.refl _)
  | enqueued p r hs hi => exact .inr ⟨p, (·.enqueue r), .enqueue r hs hi, rfl⟩
  | discarded p hs => exact .inr ⟨p, (·.discardArrival), .discard hs, rfl⟩
  | advanced p _ h => exact .inl h.moves
  | forwarded _ _ _ h => exact .inl h.moves
  | lostM => exact .inl s.loseM_moves
  | lostX => exact .inl s.loseX_moves

theorem State.issue_ports (d : Fin 8) (w : Winner) : (s.issue d w).ports = s.ports := by
  cases w with
  | port e =>
    unfold State.issue
    dsimp only
    split <;> rfl
  | pwq q => rfl
  | sweep row => rfl

/-- An event that lets no request leave answers and nothing else. -/
theorem State.Staying.answers (h : s.Staying e) : s.ports.Answers e.1.ports := by
  cases h with
  | granted d how w => exact .of_eq (State.issue_ports d w)
  | readEnds d i n e r =>
    unfold State.takeRead
    dsimp only
    split <;> exact PerPort.completeEntry_answers _ e _ _
  | writeEnds d slot q r =>
    unfold State.takePwq
    dsimp only
    split
    · exact State.removePwq_answers (s.setDtag d .free) q _ _
    · exact State.removePwq_answers (s.setDtag d .free).countCorrected q _ _
    all_goals exact State.removePwq_answers (s.setDtag d .free) q _ _
  | sweepEnds d row timer r =>
    unfold State.takeSweep
    dsimp only
    split <;> exact .refl _
  | accessEnds i e c =>
    unfold State.takeX
    dsimp only
    split <;> exact PerPort.completeEntry_answers _ e _ _
  | writeExpires slot q d => exact State.removePwq_answers (s.setDtag d .stale) q _ _
  | entryExpires i e tag =>
    have hports : (s.staleTag e tag).ports = s.ports := by
      unfold State.staleTag
      split <;> rfl
    rw [← hports]
    exact PerPort.completeEntry_answers _ e _ _
  | _ => exact .refl _

/-! ### The Engine -/

/-- What a warm reset does to the ports (R172). -/
theorem serveWarmReset_ports :
    (serveWarmReset p r s).state.ports
      = (flagAll s.pwq.entries (s.ports.completeAll s.tracker.entries .aborted)).map PortBlock.warmReset := by
  simp [serveWarmReset, State.endEntries]

theorem State.select_moves (hw : s.engineWinner = some (p, r)) : s.ports.Moves (s.select p).ports := by
  obtain ⟨-, -, rest, hi⟩ := State.engineWinner_head hw
  exact PerPort.moves_mod _ p (.single (.leave (by simp [hi])))

/-- A service changes the blocks in the ways above, but for the port that it enables and the rights that it writes. -/
theorem State.ServiceOutcome.moves {row : CtrlRow} {v : Served} (h : s.ServiceOutcome p r row v) :
    s.ports.Moves v.state.ports
      ∨ (∃ q, (s.ports.get q).state = .disabled ∧ v.state.ports = s.ports.mod q (·.enable) ∧ v.records = [])
      ∨ row = .portRightsWrite ∧ ∃ q rights, Rights.ofValue r.value = some rights ∧ r.index = q.code
        ∧ (s.ports.mod q fun b => { b with rights := rights }).Moves v.state.ports := by
  cases h with
  | disabled q hs v => exact .inl (PerPort.moves_mod _ q (.single (.disable hs)))
  | enabled q hs v => exact .inr (.inl ⟨q, hs, rfl, rfl⟩)
  | rights q rights hv hq e he => exact .inr (.inr ⟨rfl, q, rights, hv, hq, he.moves⟩)
  | warmReset =>
    rw [serveWarmReset_ports]
    have hended := (s.ports.completeAll_answers s.tracker.entries .aborted).trans (flagAll_answers _ s.pwq.entries)
    refine .inl (hended.moves.trans fun q => ?_)
    rw [PerPort.get_map]
    exact PortBlock.warmReset_moves _
  | _ => exact .inl (.refl _)

theorem Served.reply_moves (v : Served) (p : Port) (tag : BitVec 8) : v.state.ports.Moves (v.reply p tag).1.ports :=
  PerPort.moves_mod _ p (.single (.answer (.complete _ _ _ _ _)))

end

/-! ### The end of an event -/

theorem Event.close_port_eq (e : Event) (p : Port) :
    (Event.close e).ports.get p = { (e.1.ports.get p).returnCredits with
      out := (e.1.ports.get p).returnCredits.out
        ++ State.notices { e.1 with ports := e.1.ports.map PortBlock.returnCredits } p e.2 } := by
  rw [Event.close, State.handAll_port]
  simp only [PerPort.get_map]

theorem Event.record_port_eq (e : Event) (p : Port) :
    (Event.record e).ports.get p
      = { e.1.ports.get p with out := (e.1.ports.get p).out ++ e.1.notices p e.2 } :=
  State.handAll_port e.1 e.2 p

/-- A port that is not UP gets no NOTICE (R181). -/
theorem State.notices_of_not_up {s : State} {p : Port} (h : (s.ports.get p).state ≠ .up) (rs : List ErrorRecord) :
    s.notices p rs = [] :=
  if_neg fun ⟨_, _, hup⟩ => h hup

end Sys2Proof.Machine
end

section
/-! The upstream ports under every step: their credits add up (R40), who may change their rights (R165), and what a port that is not UP
is sent (R36). -/

namespace Sys2Proof.Machine

/-! ### Credits (R40, R43, R45) -/

/-- Occupancy, credit count and owed credits of a port within an event: what is owed counts, until a CREDIT returns it. -/
def PortBlock.Accounted (b : PortBlock) : Prop :=
  (b.state = .down → b.ingress = [] ∧ b.credits = 0 ∧ b.owed = 0)
    ∧ (b.state ≠ .down → b.ingress.length + b.credits + b.owed = 8)
    ∧ (b.state = .disabled → b.ingress = [])

section
variable {b b' : PortBlock}

theorem PortBlock.CreditsAddUp.accounted (h : b.CreditsAddUp) : b.Accounted := by
  obtain ⟨howed, hdown, hup, hdis⟩ := h
  exact ⟨fun hs => ⟨(hdown hs).1, (hdown hs).2, howed⟩, fun hs => by have := hup hs; omega, hdis⟩

theorem PortBlock.Accounted.creditsAddUp (h : b.Accounted) (ho : b.owed = 0) : b.CreditsAddUp := by
  obtain ⟨hdown, hup, hdis⟩ := h
  exact ⟨ho, fun hs => ⟨(hdown hs).1, (hdown hs).2.1⟩, fun hs => by have := hup hs; omega, hdis⟩

theorem PortBlock.Answer.accounted (hb : b.Accounted) (h : b.Answer b') : b'.Accounted := by
  cases h <;> simpa [PortBlock.Accounted, PortBlock.complete_eq] using hb

/-- No change makes or loses a credit: a head that leaves is owed, and so is every request of a queue that is emptied. -/
theorem PortBlock.Move.accounted (hb : b.Accounted) (h : b.Move b') : b'.Accounted := by
  obtain ⟨hdown, hup, hdis⟩ := id hb
  cases h with
  | answer h => exact h.accounted hb
  | wait | hold => exact hb
  | leave hi =>
    have hlen : b.ingress.tail.length + 1 = b.ingress.length := by
      cases hc : b.ingress <;> simp_all
    exact ⟨fun hs => absurd (hdown hs).1 hi, fun hs => by have := hup hs; simp [PortBlock.leave]; omega,
      fun hs => absurd (hdis hs) hi⟩
  | disable hs =>
    have := hup (by simp [hs])
    refine ⟨by simp [PortBlock.disable], fun _ => ?_, fun _ => rfl⟩
    simp [PortBlock.disable, PortBlock.emptyIngress]
    omega
  | empty =>
    refine ⟨fun hs => ⟨rfl, ?_⟩, fun hs => ?_, fun _ => rfl⟩
    · obtain ⟨hi, hc, ho⟩ := hdown hs
      simp [PortBlock.emptyIngress, hi, hc, ho]
    · have := hup hs
      simp [PortBlock.emptyIngress]
      omega

/-- A request that arrives between events finds a credit to take. -/
theorem PortBlock.Arrival.accounted (hb : b.CreditsAddUp) (h : b.Arrival b') : b'.Accounted := by
  obtain ⟨howed, -, hup, hdis⟩ := hb
  cases h with
  | enqueue r hs hi =>
    have := hup (by simp [hs])
    exact ⟨by simp [PortBlock.enqueue, hs], fun _ => by simp [PortBlock.enqueue]; omega, by simp [PortBlock.enqueue, hs]⟩
  | discard hs =>
    have := hup (by simp [hs])
    have hi := hdis hs
    simp only [hi, List.length_nil] at this
    exact ⟨by simp [PortBlock.discardArrival, hs], fun _ => by simp [PortBlock.discardArrival, hi]; omega,
      fun _ => by simpa [PortBlock.discardArrival] using hi⟩

theorem PortBlock.enable_accounted (hb : b.Accounted) (hs : b.state = .disabled) : b.enable.Accounted := by
  obtain ⟨-, hup, -⟩ := hb
  exact ⟨by simp [PortBlock.enable], fun _ => hup (by simp [hs]), by simp [PortBlock.enable]⟩

theorem PortBlock.Accounted.returnCredits (h : b.Accounted) : b.returnCredits.CreditsAddUp := by
  by_cases ho : b.owed = 0
  · rw [PortBlock.returnCredits_of_owed_zero ho]
    exact h.creditsAddUp ho
  · obtain ⟨hdown, hup, hdis⟩ := h
    have hs : b.state ≠ .down := fun hs => ho (hdown hs).2.2
    rw [PortBlock.returnCredits_of_owed ho hs]
    exact ⟨rfl, fun hd => absurd hd hs, fun _ => by have := hup hs; simp only; omega, hdis⟩

end

section
variable {s : State} {e : Event}

/-- Every port's credits are accounted for, within an event. -/
def State.Accounted (s : State) : Prop := ∀ p, (s.ports.get p).Accounted

theorem State.CreditsAddUp.accounted (h : s.CreditsAddUp) : s.Accounted := fun p =>
  PortBlock.CreditsAddUp.accounted (PerPort.all_iff_get.mp h p)

theorem State.Accounted.moves {t : State} (h : s.Accounted) (hm : s.ports.Moves t.ports) : t.Accounted := fun p =>
  (hm p).keeps (fun _ _ hb hstep => hstep.accounted hb) (h p)

theorem State.Accounted.close (h : e.1.Accounted) : (Event.close e).CreditsAddUp := by
  refine PerPort.all_iff_get.mpr fun p => ?_
  rw [Event.close_port_eq]
  exact (h p).returnCredits

/-- An event that lets no request leave owes no credits. -/
theorem State.CreditsAddUp.record (h : s.CreditsAddUp) (ha : s.ports.Answers e.1.ports) : (Event.record e).CreditsAddUp := by
  refine PerPort.all_iff_get.mpr fun p => ?_
  rw [Event.record_port_eq]
  have howed : (e.1.ports.get p).owed = 0 :=
    (ha p).keeps (P := fun b => b.owed = 0) (fun _ _ hb hstep => by cases hstep <;> simpa [PortBlock.complete_eq] using hb)
      (h.nothingOwed.owed_get p)
  exact (h.accounted.moves ha.moves p).creditsAddUp howed

/-- A service accounts for every credit, whatever it does. -/
theorem State.ServiceOutcome.accounted {p : Port} {r : Request} {row : CtrlRow} {v : Served} (h : s.ServiceOutcome p r row v)
    (hs : s.Accounted) : v.state.Accounted := by
  obtain hm | ⟨q, hd, hv, -⟩ | ⟨-, q, rights, -, -, hm⟩ := h.moves
  · exact hs.moves hm
  · intro u
    rw [hv]
    by_cases hu : u = q
    · subst hu
      rw [PerPort.get_mod_same]
      exact PortBlock.enable_accounted (hs u) hd
    · rw [PerPort.get_mod_other _ _ hu]
      exact hs u
  · have hw : (s.modPort q fun b => { b with rights := rights }).Accounted := fun u => by
      rw [State.modPort_ports, PerPort.get_mod]
      split
      · next hu => subst hu; exact hs u
      · exact hs u
    exact State.Accounted.moves hw hm

theorem State.Accounted.service (h : s.Accounted) {p : Port} {r : Request} {row : CtrlRow} {v : Served} (hw : s.engineWinner = some (p, r))
    (hv : (s.select p).ServiceOutcome p r row v) : (v.reply p r.tag).1.Accounted :=
  (hv.accounted (h.moves (State.select_moves hw))).moves (v.reply_moves p r.tag)

theorem State.reset_creditsAddUp : State.reset.CreditsAddUp := by decide

/-- Every command keeps the credits of every port adding up. -/
theorem exec_creditsAddUp {i : Instr} {t : State} (hs : s.CreditsAddUp) (h : exec i s = .next t) : t.CreditsAddUp := by
  cases exec_effect h with
  | reset => exact State.reset_creditsAddUp
  | linkReady p hd =>
    refine PerPort.all_iff_get.mpr fun q => ?_
    rw [State.modPort_ports, PerPort.get_mod]
    split
    · exact ⟨rfl, fun hc => absurd hc (by simp [PortBlock.linkReady]), fun _ => rfl, fun _ => rfl⟩
    · exact PerPort.all_iff_get.mp hs q
  | linkLost p hd rs =>
    refine PerPort.all_iff_get.mpr fun q => ?_
    rw [Event.record_port_eq, State.orphanPort_ports, State.modPort_ports, PerPort.get_mod]
    split
    · exact ⟨rfl, fun _ => ⟨rfl, rfl⟩, fun hc => absurd rfl hc, fun _ => rfl⟩
    · exact PerPort.all_iff_get.mp hs q
  | unserved _ p r st hw => exact (hs.accounted.service hw (row := .commit) (.unchanged st 0)).close
  | served row p r v hw _ _ hv => exact (hs.accounted.service hw hv).close
  | leaving _ e he =>
    refine State.Accounted.close ?_
    obtain hm | ⟨p, f, ha, rfl⟩ := he.moves
    · exact hs.accounted.moves hm
    · intro q
      rw [State.modPort_ports, PerPort.get_mod]
      split
      · exact ha.accounted (PerPort.all_iff_get.mp hs p)
      · exact hs.accounted q
  | staying _ e he => exact hs.record he.answers

end

/-- Settles O52: the credits are accounted for within every event, and at its end none is owed. -/
theorem everyStepKeepsCreditsAddingUp : Obligations.EveryStepKeepsCreditsAddingUp := fun _ _ hs h =>
  step_keeps (P := State.CreditsAddUp) (fun _ _ hu => hu) (fun _ _ _ hu hx => exec_creditsAddUp hu hx) hs h

/-! ### Rights (R165) -/

section
variable {b b' : PortBlock} {s t : State}

theorem PortBlock.Move.rights_eq (h : b.Move b') : b'.rights = b.rights := by
  cases h with
  | answer h => cases h <;> simp [PortBlock.complete_eq]
  | _ => rfl

theorem PortBlock.Arrival.rights_eq (h : b.Arrival b') : b'.rights = b.rights := by cases h <;> rfl

theorem PerPort.Moves.rights_eq {x y : PerPort PortBlock} (h : x.Moves y) (p : Port) : (y.get p).rights = (x.get p).rights :=
  (h p).keeps (P := fun b => b.rights = (x.get p).rights) (fun _ _ hb hstep => hstep.rights_eq.trans hb) rfl

theorem PerPort.mod_rights_eq (x : PerPort PortBlock) (p q : Port) {f : PortBlock → PortBlock}
    (h : (f (x.get p)).rights = (x.get p).rights) : ((x.mod p f).get q).rights = (x.get q).rights := by
  rw [PerPort.get_mod]
  split
  · next hq => rw [h, hq]
  · rfl

theorem Event.close_rights (e : Event) (p : Port) :
    ((Event.close e).ports.get p).rights = (e.1.ports.get p).rights := by
  rw [Event.close_port_eq]
  unfold PortBlock.returnCredits
  split <;> rfl

theorem Event.record_rights (e : Event) (p : Port) :
    ((Event.record e).ports.get p).rights = (e.1.ports.get p).rights := by
  rw [Event.record_port_eq]

/-- A command changes a port's rights only as a cold reset, or as a legal write of that port's rights that passes the checks. -/
theorem exec_rights {i : Instr} (q : Port) (h : exec i s = .next t) :
    (t.ports.get q).rights = (s.ports.get q).rights ∨ i = .coldReset
      ∨ i = .portRightsWrite ∧ ∃ p r, s.engineWinner = some (p, r)
        ∧ r.row = .portRightsWrite ∧ r.checks (s.ports.get p).rights = none ∧ r.index = q.code
        ∧ Rights.ofValue r.value = some (t.ports.get q).rights := by
  cases exec_effect h with
  | reset => exact .inr (.inl rfl)
  | linkReady p _ => exact .inl (s.ports.mod_rights_eq p q rfl)
  | linkLost p _ rs =>
    rw [Event.record_rights]
    exact .inl (s.ports.mod_rights_eq p q rfl)
  | unserved _ p r st hw =>
    rw [Event.close_rights]
    exact .inl (((State.select_moves hw).trans (Served.reply_moves { state := s.select p, status := st } p r.tag)).rights_eq q)
  | served row p r v hw hr hc hv =>
    rw [Event.close_rights, (v.reply_moves p r.tag).rights_eq q]
    have hsel := (State.select_moves hw).rights_eq
    obtain hm | ⟨u, -, hu, -⟩ | ⟨rfl, u, rights, hval, hidx, hm⟩ := hv.moves
    · exact .inl ((hm.rights_eq q).trans (hsel q))
    · rw [hu]
      exact .inl ((PerPort.mod_rights_eq _ u q rfl).trans (hsel q))
    · rw [hm.rights_eq q, PerPort.get_mod]
      split
      · next hq => exact .inr (.inr ⟨rfl, p, r, hw, hr, hc, hq ▸ hidx, hval⟩)
      · exact .inl (hsel q)
  | leaving _ e he =>
    rw [Event.close_rights]
    obtain hm | ⟨p, f, ha, rfl⟩ := he.moves
    · exact .inl (hm.rights_eq q)
    · exact .inl (s.ports.mod_rights_eq p q ha.rights_eq)
  | staying _ e he =>
    rw [Event.record_rights]
    exact .inl (he.answers.moves.rights_eq q)

end

/-- Settles O59: an idle step changes nothing, and of the commands only two change a port's rights. -/
theorem rightsChangeOnlyByTheirWrite : Obligations.RightsChangeOnlyByTheirWrite := by
  intro s t q hstep hne
  unfold step at hstep
  split at hstep
  · cases hstep
    exact absurd rfl hne
  · next c rest hp =>
    obtain h | rfl | ⟨rfl, h⟩ := exec_rights q hstep
    · exact absurd h hne
    · exact .inl (by rw [hp]; rfl)
    · exact .inr ⟨by rw [hp]; rfl, h⟩

/-! ### What a port that is not UP is sent (R36, R44, R109, R181) -/

/-- The block was sent CREDITs at most, and nothing while it was DOWN. -/
def PortBlock.SentCreditsAtMost (b b' : PortBlock) : Prop :=
  ∃ sent, b'.out = b.out ++ sent ∧ (∀ pkt ∈ sent, pkt.kindCode = 9) ∧ (b.state = .down → sent = [])

theorem creditPacket_kindCode (n : Nat) : (creditPacket n).kindCode = 9 := by
  simp [Packet.kindCode, creditPacket, field_place_same, field_place_disjoint]

section
variable {b b' : PortBlock} {s t : State} {e : Event}

theorem PortBlock.Move.quiet (h : b.Move b') (hs : b.state ≠ .up) : b'.state = b.state ∧ b'.out = b.out := by
  cases h with
  | answer h => cases h <;> simp [PortBlock.complete_eq, hs]
  | disable hup => exact absurd hup hs
  | _ => exact ⟨rfl, rfl⟩

/-- A port that is not UP stays in its state and is sent nothing before the end of an event. -/
theorem PerPort.Moves.quiet {x y : PerPort PortBlock} (h : x.Moves y) {p : Port} (hs : (x.get p).state ≠ .up) :
    (y.get p).state = (x.get p).state ∧ (y.get p).out = (x.get p).out :=
  (h p).keeps (P := fun b => b.state = (x.get p).state ∧ b.out = (x.get p).out)
    (fun b b' hb hstep => by
      obtain ⟨hst, hout⟩ := hstep.quiet (by rwa [hb.1])
      exact ⟨hst.trans hb.1, hout.trans hb.2⟩) ⟨rfl, rfl⟩

theorem PortBlock.returnCredits_sent (b : PortBlock) : b.SentCreditsAtMost b.returnCredits := by
  by_cases h : b.owed = 0 ∨ b.state = .down
  · rw [PortBlock.returnCredits, if_pos h]
    exact ⟨[], by simp, by simp, fun _ => rfl⟩
  · rw [PortBlock.returnCredits, if_neg h]
    exact ⟨[creditPacket b.owed], rfl, by simp [creditPacket_kindCode], fun hd => absurd (.inr hd) h⟩

/-- The end of an event returns credits to a port and notices nothing to it, when the port is not UP or there are no records. -/
theorem Event.close_sent {p : Port} (hn : (e.1.ports.get p).state ≠ .up ∨ e.2 = [])
    (hdown : (s.ports.get p).state = .down → (e.1.ports.get p).state = .down)
    (hout : (e.1.ports.get p).out = (s.ports.get p).out) :
    (s.ports.get p).SentCreditsAtMost ((Event.close e).ports.get p) := by
  obtain ⟨sent, hsent, hkind, hnil⟩ := PortBlock.returnCredits_sent (e.1.ports.get p)
  have hnotices : State.notices { e.1 with ports := e.1.ports.map PortBlock.returnCredits } p e.2 = [] := by
    obtain hn | hn := hn
    · exact State.notices_of_not_up (by simpa [PortBlock.returnCredits_state] using hn) _
    · simp [hn, State.notices]
  rw [Event.close_port_eq, hnotices, List.append_nil]
  exact ⟨sent, by rw [hsent, hout], hkind, fun hd => hnil (hdown hd)⟩

theorem Event.close_sent_of_moves {p : Port} (h : s.ports.Moves e.1.ports) (hs : (s.ports.get p).state ≠ .up) :
    (s.ports.get p).SentCreditsAtMost ((Event.close e).ports.get p) := by
  obtain ⟨hst, hout⟩ := h.quiet hs
  exact Event.close_sent (.inl (by rwa [hst])) (fun hd => hst.trans hd) hout

theorem PerPort.mod_quiet (x : PerPort PortBlock) (q p : Port) {f : PortBlock → PortBlock}
    (hf : (f (x.get q)).state = (x.get q).state ∧ (f (x.get q)).out = (x.get q).out) :
    ((x.mod q f).get p).state = (x.get p).state ∧ ((x.mod q f).get p).out = (x.get p).out := by
  rw [PerPort.get_mod]
  split
  · next hp => subst hp; exact hf
  · exact ⟨rfl, rfl⟩

/-- A service sends a port that is not UP credits at most: the port that it enables is not the requester and gets no notice. -/
theorem Event.close_sent_of_service {p u : Port} {r : Request} {row : CtrlRow} {v : Served} (hw : s.engineWinner = some (p, r))
    (hv : (s.select p).ServiceOutcome p r row v) (hs : (s.ports.get u).state ≠ .up) :
    (s.ports.get u).SentCreditsAtMost ((Event.close (v.reply p r.tag)).ports.get u) := by
  obtain ⟨hst, hout⟩ := (State.select_moves hw).quiet hs
  have hs' : ((s.select p).ports.get u).state ≠ .up := by rwa [hst]
  have hreply := v.reply_moves p r.tag
  obtain hm | ⟨q, hd, hq, hrec⟩ | ⟨-, q, rights, -, -, hm⟩ := hv.moves
  · exact Event.close_sent_of_moves ((State.select_moves hw).trans (hm.trans hreply)) hs
  · obtain ⟨hup, -⟩ := State.engineWinner_head hw
    have hup' : u ≠ p := fun h => hs (h ▸ hup)
    have hblock : (v.reply p r.tag).1.ports.get u = v.state.ports.get u := PerPort.get_mod_other _ _ hup'
    refine Event.close_sent (.inr hrec) (fun hdown => ?_) ?_ <;> rw [hblock, hq, PerPort.get_mod]
    · split
      · next hu => rw [← hu, hst, hdown] at hd; cases hd
      · rw [hst, hdown]
    · split
      · next hu => subst hu; exact hout
      · exact hout
  · obtain ⟨hst₂, hout₂⟩ := PerPort.mod_quiet (s.select p).ports q u (f := fun b => { b with rights := rights }) ⟨rfl, rfl⟩
    obtain ⟨hst₃, hout₃⟩ := (hm.trans hreply).quiet (p := u) (by rwa [hst₂])
    exact Event.close_sent (.inl (by rwa [hst₃, hst₂])) (fun hdown => by rw [hst₃, hst₂, hst, hdown])
      (by rw [hout₃, hout₂, hout])

theorem PortBlock.Arrival.quiet (h : b.Arrival b') : b'.state = b.state ∧ b'.out = b.out := by
  cases h <;> exact ⟨rfl, rfl⟩

end

/-- Settles O60: within an event a port that is not UP is sent nothing, and at its end a CREDIT at most. -/
theorem portsThatAreNotUpAreSentCreditsAtMost : Obligations.PortsThatAreNotUpAreSentCreditsAtMost := by
  intro c s t p h hs hreset hready hlost
  change (s.ports.get p).SentCreditsAtMost (t.ports.get p)
  cases exec_effect h with
  | reset => exact absurd rfl hreset
  | linkReady q _ =>
    have hq : p ≠ q := fun hq => hready (by rw [hq])
    exact ⟨[], by simp [hq], by simp, fun _ => rfl⟩
  | linkLost q _ rs =>
    have hq : p ≠ q := fun hq => hlost (by rw [hq])
    rw [Event.record_port_eq, State.notices_of_not_up (by simpa [hq] using hs)]
    exact ⟨[], by simp [hq], by simp, fun _ => rfl⟩
  | unserved _ q r st hw => exact Event.close_sent_of_service hw (row := .commit) (.unchanged st 0) hs
  | served row q r v hw _ _ hv => exact Event.close_sent_of_service hw hv hs
  | leaving _ e he =>
    obtain hm | ⟨q, f, ha, rfl⟩ := he.moves
    · exact Event.close_sent_of_moves hm hs
    · obtain ⟨hst, hout⟩ := s.ports.mod_quiet q p ha.quiet
      exact Event.close_sent (.inr rfl) (fun hdown => hst.trans hdown) hout
  | staying _ e he =>
    obtain ⟨hst, hout⟩ := he.answers.moves.quiet hs
    rw [Event.record_port_eq, State.notices_of_not_up (by rwa [hst])]
    exact ⟨[], by simp [hout], by simp, fun _ => rfl⟩

end Sys2Proof.Machine
end

section
/-! Every block beside the ports under every step: which blocks an event leaves alone, that every command completes (section 11.7), the
numbering of the log (R177, R178), and the ranges of the settings and counters (section 10.2). -/

namespace Sys2Proof.Machine

/-! ### The blocks that an event leaves alone -/

/-- The blocks that neither a head's advance nor the end of a waiting head changes, and what software sets up. -/
structure State.SameBlocks (s t : State) : Prop where
  sched : t.sched = s.sched
  sweep : t.sweep = s.sweep
  ext   : t.ext = s.ext
  log   : t.log = s.log
  setup : t.setup = s.setup

theorem State.SameBlocks.refl (s : State) : s.SameBlocks s := ⟨rfl, rfl, rfl, rfl, rfl⟩

theorem State.SameBlocks.trans {s t u : State} (h : s.SameBlocks t) (h' : t.SameBlocks u) : s.SameBlocks u :=
  ⟨h'.sched.trans h.sched, h'.sweep.trans h.sweep, h'.ext.trans h.ext, h'.log.trans h.log, h'.setup.trans h.setup⟩

section
variable {s : State} {p : Port} {r : Request} {e : Event}

theorem State.takeWrite_sameBlocks {t : State} {a : BitVec 36} {c : Classification} {owed : Option (Fin 24)} {slot : Fin 16}
    (h : s.takeWrite p a r c owed = some (t, slot)) : s.SameBlocks t := by
  obtain ⟨_, rfl⟩ | ⟨_, rfl⟩ := State.takeWrite_cases h <;> exact ⟨rfl, rfl, rfl, rfl, rfl⟩

theorem State.HeadOutcome.sameBlocks (h : s.HeadOutcome p r e) : s.SameBlocks e.1 := by
  cases h with
  | read a c =>
    unfold State.dispatchRead
    split
    · exact ⟨rfl, rfl, rfl, rfl, rfl⟩
    · dsimp only
      split <;> exact ⟨rfl, rfl, rfl, rfl, rfl⟩
  | write a c =>
    unfold State.dispatchWrite
    dsimp only
    split
    · exact ⟨rfl, rfl, rfl, rfl, rfl⟩
    · next ht =>
      refine (State.takeWrite_sameBlocks ht).trans ?_
      split <;> exact ⟨rfl, rfl, rfl, rfl, rfl⟩
  | flush =>
    unfold State.dispatchFlush
    dsimp only
    split <;> exact ⟨rfl, rfl, rfl, rfl, rfl⟩
  | _ => exact ⟨rfl, rfl, rfl, rfl, rfl⟩

theorem State.Advancing.sameBlocks (h : s.Advancing p e) : s.SameBlocks e.1 := by
  obtain rfl | ⟨_, _, -, -, h⟩ := h
  · exact .refl _
  · exact h.sameBlocks

theorem State.endWaiting_sameBlocks (s : State) (g : Progress) (p : Port) : s.SameBlocks (s.endWaiting g p).1 := by
  unfold State.endWaiting
  dsimp only
  split
  · split
    · split <;> exact ⟨rfl, rfl, rfl, rfl, rfl⟩
    · exact .refl _
  · exact .refl _

theorem State.endWaitingAll_sameBlocks (g : Progress) (ps : List Port) (e : Event) :
    e.1.SameBlocks (State.endWaitingAll g ps e).1 := by
  induction ps generalizing e with
  | nil => exact .refl _
  | cons p ps ih => exact (State.endWaiting_sameBlocks e.1 g p).trans (ih ((e.1.endWaiting g p).1, e.2 ++ (e.1.endWaiting g p).2))

theorem answerOwed_sameBlocks (st : Status) (is : List (Fin 24)) (s : State) : s.SameBlocks (answerOwed st is s) := by
  obtain ⟨-, -, -, -, h5, h6, h7, -, h9, -⟩ := answerOwed_frame st is s
  exact ⟨h5, h6, h7, h9, answerOwed_setup s st is⟩

theorem State.removePwq_sameBlocks (s : State) (q : PwqEntry) (st : Status) (failed : Option RecordKind) :
    s.SameBlocks (s.removePwq q st failed).1 := by
  obtain ⟨-, -, -, -, h5, h6, h7, -, h9, -⟩ := s.removePwq_frame q st failed
  exact ⟨h5, h6, h7, h9, s.removePwq_setup q st failed⟩

theorem State.discardPwq_sameBlocks (s : State) : s.SameBlocks s.discardPwq.1 := by
  let flagged : State := { s.withPwq [] with ports := flagAll s.pwq.entries s.ports }
  have h : s.SameBlocks flagged := ⟨rfl, rfl, rfl, rfl, rfl⟩
  refine (h.trans (answerOwed_sameBlocks .targetDown (s.pwq.entries.flatMap (·.owed)) flagged)).trans ?_
  exact ⟨rfl, rfl, rfl, rfl, rfl⟩

/-- What the loss of M leaves of the blocks beside the ports, the queue and the tracker (R48, R133, R145). -/
theorem State.loseM_blocks (s : State) :
    s.loseM.1.sweep = { s.sweep with queue := [] } ∧ s.loseM.1.ext = s.ext ∧ s.loseM.1.log = s.log := by
  have h := State.endWaitingAll_sameBlocks .waitPwq [.u0, .u1, .u2, .u3] (s.queueLost, s.readsLost.discardPwq.2)
  have hd := s.readsLost.discardPwq_sameBlocks
  rw [State.loseM_eq]
  refine ⟨h.sweep.trans ?_, h.ext.trans hd.ext, h.log.trans hd.log⟩
  simp only [State.queueLost, hd.sweep]
  rfl

/-- What the loss of X leaves of them (R49). -/
theorem State.loseX_blocks (s : State) :
    s.loseX.1.sweep = s.sweep ∧ s.loseX.1.ext = { s.ext.flip with link := .down, credits := 0, out := [] }
      ∧ s.loseX.1.log = s.log := by
  have h := State.endWaitingAll_sameBlocks .waitX [.u0, .u1, .u2, .u3] (s.accessesLost, [])
  rw [State.loseX_eq]
  exact ⟨h.sweep, h.ext, h.log⟩

theorem State.CreditOutcome.setup (h : s.CreditOutcome e) : e.1.setup = s.setup := by
  cases h <;> rfl

theorem State.Leaving.setup (h : s.Leaving e) : e.1.setup = s.setup := by
  cases h with
  | advanced p _ h => exact h.sameBlocks.setup
  | forwarded _ _ _ h => exact h.setup
  | lostM => exact s.loseM_setup
  | lostX => exact s.loseX_setup
  | _ => rfl

theorem State.Staying.setup (h : s.Staying e) : e.1.setup = s.setup := by
  cases h with
  | granted d how w => exact s.grant_setup d how w
  | readEnds d i n e r => exact s.takeRead_setup d e r
  | writeEnds d slot q r => exact s.takePwq_setup d q r
  | sweepEnds d row timer r => exact s.takeSweep_setup d row r
  | accessEnds i e c => exact s.takeX_setup e c
  | writeExpires slot q d => exact (s.setDtag d .stale).removePwq_setup _ _ _
  | entryExpires i e tag => exact s.staleTag_setup e tag
  | _ => rfl

theorem State.Leaving.log (h : s.Leaving e) : e.1.log = s.log := by
  cases h with
  | advanced p _ h => exact h.sameBlocks.log
  | forwarded _ _ _ h => cases h <;> rfl
  | lostM => exact s.loseM_blocks.2.2
  | lostX => exact s.loseX_blocks.2.2
  | _ => rfl

theorem State.issue_log (d : Fin 8) (w : Winner) : (s.issue d w).log = s.log := by
  cases w with
  | port e =>
    unfold State.issue
    dsimp only
    split <;> rfl
  | pwq q => rfl
  | sweep row => rfl

theorem State.Staying.log (h : s.Staying e) : e.1.log = s.log := by
  cases h with
  | granted d how w => exact State.issue_log d w
  | readEnds d i n e r =>
    unfold State.takeRead
    dsimp only
    split <;> rfl
  | writeEnds d slot q r =>
    unfold State.takePwq
    dsimp only
    split
    · exact (State.removePwq_sameBlocks (s.setDtag d .free) q _ _).log
    · exact (State.removePwq_sameBlocks (s.setDtag d .free).countCorrected q _ _).log
    all_goals exact (State.removePwq_sameBlocks (s.setDtag d .free) q _ _).log
  | sweepEnds d row timer r =>
    unfold State.takeSweep
    dsimp only
    split <;> rfl
  | accessEnds i e c =>
    unfold State.takeX
    dsimp only
    split <;> rfl
  | writeExpires slot q d => exact (State.removePwq_sameBlocks (s.setDtag d .stale) q _ _).log
  | entryExpires i e tag =>
    unfold State.staleTag
    split <;> rfl
  | _ => rfl

end

/-! ### Every command completes (section 11.7) -/

theorem State.pending_of_setup {s t : State} (h : t.setup = s.setup) : t.pending = s.pending := congrArg Setup.pending h

theorem State.ServiceOutcome.pending {s : State} {p : Port} {r : Request} {row : CtrlRow} {v : Served}
    (h : s.ServiceOutcome p r row v) : v.state.pending = s.pending := by
  cases h with
  | rights q rights _ _ e he => exact State.pending_of_setup he.sameBlocks.setup
  | _ => rfl

/-- No command faults or is refused. -/
theorem exec_completes (i : Instr) (s : State) : ∃ t, exec i s = .next t := by
  cases i with
  | portLinkReady p =>
    change ∃ t, execPortLinkReady p s = _
    unfold execPortLinkReady
    split <;> exact ⟨_, rfl⟩
  | portLinkLost p =>
    change ∃ t, execPortLinkLost p s = _
    unfold execPortLinkLost
    split <;> exact ⟨_, rfl⟩
  | mLinkLost =>
    change ∃ t, execMLinkLost s = _
    unfold execMLinkLost
    split <;> exact ⟨_, rfl⟩
  | xLinkLost =>
    change ∃ t, execXLinkLost s = _
    unfold execXLinkLost
    split <;> exact ⟨_, rfl⟩
  | packetOutOfPlace l pkt => cases l <;> exact ⟨_, rfl⟩
  | _ => exact ⟨_, rfl⟩

theorem exec_pending {i : Instr} {s t : State} (h : exec i s = .next t) : t.pending = s.pending := by
  cases exec_effect h with
  | reset => rfl
  | linkReady => rfl
  | linkLost p hd rs => exact State.pending_of_setup (Event.record_setup _)
  | unserved _ p r st hw =>
    exact (State.pending_of_setup (Event.close_setup _)).trans (rfl : _ = s.pending)
  | served row p r v hw _ _ hv => exact (State.pending_of_setup (Event.close_setup _)).trans hv.pending
  | leaving _ e he => exact State.pending_of_setup ((Event.close_setup e).trans he.setup)
  | staying _ e he => exact State.pending_of_setup ((Event.record_setup e).trans he.setup)

/-- Settles O2: every command answers with a next state, and none of its effects touches the commands that wait. -/
theorem everyCommandCompletes : Obligations.EveryCommandCompletes := by
  intro c s
  obtain ⟨t, ht⟩ := exec_completes c s
  exact ⟨t, ht, exec_pending ht⟩

/-! ### The log (R177, R178) -/

/-- At most 8 records with consecutive numbers, the last just below the counter. -/
def ErrorLog.Numbered (l : ErrorLog) : Prop :=
  l.records.length ≤ 8 ∧ l.overflow ≤ 255
    ∧ l.records.map (·.sequence) = (List.range l.records.length).map fun i => l.sequence - BitVec.ofNat 16 (l.records.length - i)

theorem saturate_le {limit n : Nat} (h : n ≤ limit) : saturate limit n ≤ limit := by
  unfold saturate
  split <;> omega

section
variable {l : ErrorLog}

/-- The record stored next takes the number after the last one. -/
theorem ErrorLog.Numbered.take (h : l.Numbered) (r : ErrorRecord) : (l.take r).Numbered := by
  obtain ⟨hlen, hover, hseq⟩ := h
  by_cases hl : l.records.length < 8
  · rw [ErrorLog.take_of_room hl]
    refine ⟨by simp; omega, hover, ?_⟩
    have hshift (i : Nat) (hi : i < l.records.length) :
        l.sequence - BitVec.ofNat 16 (l.records.length - i) = l.sequence + 1 - BitVec.ofNat 16 (l.records.length + 1 - i) := by
      rw [Nat.sub_add_comm hi.le, BitVec.ofNat_add]
      exact (add_sub_add_right_eq_sub _ _ _).symm
    rw [List.map_append, hseq, List.length_append, List.length_singleton, List.range_succ, List.map_append]
    refine congrArg₂ (· ++ ·) (List.map_congr_left fun i hi => hshift i (List.mem_range.mp hi)) ?_
    simp
  · rw [ErrorLog.take_of_full (Nat.not_lt.mp hl)]
    exact ⟨hlen, saturate_le hover, hseq⟩

theorem ErrorLog.Numbered.takeAll (h : l.Numbered) (rs : List ErrorRecord) : (rs.foldl ErrorLog.take l).Numbered := by
  induction rs generalizing l with
  | nil => exact h
  | cons r rs ih => exact ih (h.take r)

/-- LOG_POP removes the lowest number. -/
theorem ErrorLog.Numbered.pop (h : l.Numbered) : ErrorLog.Numbered { l with records := l.records.tail } := by
  obtain ⟨hlen, hover, hseq⟩ := h
  cases hr : l.records with
  | nil => exact ⟨by simp, hover, by simp⟩
  | cons x xs =>
    rw [hr, List.length_cons] at hlen hseq
    rw [List.map_cons, List.range_succ_eq_map, List.map_cons, List.map_map, List.cons.injEq] at hseq
    refine ⟨by simpa using Nat.le_of_succ_le hlen, hover, hseq.2.trans (List.map_congr_left fun i _ => ?_)⟩
    simp

end

section
variable {s t : State}

theorem Event.close_log (e : Event) : (Event.close e).log = e.2.foldl ErrorLog.take e.1.log := State.handAll_log _ _

theorem Event.record_log (e : Event) : (Event.record e).log = e.2.foldl ErrorLog.take e.1.log := State.handAll_log _ _

theorem State.ServiceOutcome.logNumbered {p : Port} {r : Request} {row : CtrlRow} {v : Served} (h : s.ServiceOutcome p r row v)
    (hs : s.log.Numbered) : v.state.log.Numbered := by
  cases h with
  | popped => exact hs.pop
  | cleared => exact ⟨by simp, by simp, by simp⟩
  | rights q rights _ _ e he =>
    rw [he.sameBlocks.log]
    exact hs
  | _ => exact hs

theorem State.reset_logNumbered : State.reset.log.Numbered := ⟨by decide, by decide, by decide⟩

/-- Every command keeps the log numbered: events hand records over, and the Engine alone removes them. -/
theorem exec_logNumbered {i : Instr} (hs : s.log.Numbered) (h : exec i s = .next t) : t.log.Numbered := by
  cases exec_effect h with
  | reset => exact State.reset_logNumbered
  | linkReady => exact hs
  | linkLost p hd rs =>
    rw [Event.record_log]
    exact hs.takeAll rs
  | unserved _ p r st hw =>
    rw [Event.close_log]
    exact hs.takeAll _
  | served row p r v hw _ _ hv =>
    rw [Event.close_log]
    exact (hv.logNumbered hs).takeAll _
  | leaving _ e he =>
    rw [Event.close_log, he.log]
    exact hs.takeAll _
  | staying _ e he =>
    rw [Event.record_log, he.log]
    exact hs.takeAll _

end

/-- Settles O55: every record is stored under the next number, and LOG_POP and LOG_CLEAR remove the lowest ones. -/
theorem everyStepKeepsTheLogNumbered : Obligations.EveryStepKeepsTheLogNumbered := fun _ _ hs h =>
  step_keeps (P := fun u => u.log.Numbered) (fun _ _ hu => hu) (fun _ _ _ hu hx => exec_logNumbered hu hx) hs h

/-! ### Settings and counters in range (section 10.2) -/

/-- What a port's block holds of the ranges. -/
def PortBlock.InRange (b : PortBlock) : Prop := 1 ≤ b.rights.quota ∧ b.rights.quota ≤ 8 ∧ b.discarded ≤ 65535

/-- What the settings hold of the ranges. -/
def Setup.InRange (x : Setup) : Prop :=
  (4 ≤ x.watermark ∧ x.watermark ≤ 16)
    ∧ x.combineWindow ≤ 255
    ∧ (1 ≤ x.timeoutM ∧ x.timeoutM ≤ 1023)
    ∧ (1 ≤ x.timeoutX ∧ x.timeoutX ≤ 65535)
    ∧ x.window.desc.size ≤ 256
    ∧ x.window.desc.base.toNat + x.window.desc.size ≤ 2 ^ 28
    ∧ x.window.desc.memBase.toNat + x.window.desc.size ≤ 2 ^ 24

theorem State.settingsInRange_iff {s : State} : s.SettingsInRange ↔ s.setup.InRange ∧ ∀ p, (s.ports.get p).InRange := by
  rw [← PerPort.all_iff_get (P := fun _ b => PortBlock.InRange b)]
  simp only [State.SettingsInRange, Setup.InRange, State.setup, PortBlock.InRange, and_assoc]

/-- What the Sweep Generator holds of the ranges. -/
def SweepGen.Bounded (g : SweepGen) : Prop :=
  g.queue.length ≤ 4 ∧ g.row < g.rows ∧ g.rows ≤ 2 ^ 20 ∧ g.interval ≤ 65535 ∧ (g.timer = none ↔ g.interval = 0)

/-- What the Scheduler holds of the ranges. -/
def Scheduler.HoldSound (m : Scheduler) : Prop :=
  m.slotCounter ≤ 3 ∧ 1 ≤ m.holdBudget ∧ m.holdBudget ≤ 15 ∧ ∀ n ∈ m.hold, 1 ≤ n ∧ n ≤ 14 ∧ m.favoured.isSome

/-- What the Forwarder holds of the ranges. -/
def Extension.CreditsBounded (x : Extension) : Prop := x.credits ≤ 8 ∧ (x.link = .down → x.credits = 0)

/-- Everything that the section's ranges bound. -/
structure State.InRange (s : State) : Prop where
  setup : s.setup.InRange
  ports : ∀ p, (s.ports.get p).InRange
  sweep : s.sweep.Bounded
  sched : s.sched.HoldSound
  ext   : s.ext.CreditsBounded

theorem sweepPeriod_eq_none {n : Nat} : sweepPeriod n = none ↔ n = 0 := by
  unfold sweepPeriod
  split <;> simp [*]

/-- The Sweep Generator's queue may be shortened, and its count raised. -/
theorem SweepGen.Bounded.of_queue {g : SweepGen} (h : g.Bounded) {q : List (BitVec 20)} (hq : q.length ≤ g.queue.length) (n : Nat) :
    SweepGen.Bounded { g with queue := q, corrected := n } := by
  obtain ⟨hlen, hrest⟩ := h
  exact ⟨hq.trans hlen, hrest⟩

theorem SweepGen.Bounded.period {g : SweepGen} (h : g.Bounded) : SweepGen.Bounded { g with timer := sweepPeriod g.interval } := by
  obtain ⟨hlen, hrow, hrows, hint, -⟩ := h
  exact ⟨hlen, hrow, hrows, hint, sweepPeriod_eq_none⟩

theorem SweepGen.Bounded.queueRow {g : SweepGen} (h : g.Bounded) (hq : g.queue.length < 4) : g.queueRow.Bounded := by
  obtain ⟨-, hrow, hrest⟩ := h
  exact ⟨by simp [SweepGen.queueRow]; omega, Nat.mod_lt _ (by omega), hrest⟩

section
variable {b b' : PortBlock}

theorem PortBlock.Move.inRange (hb : b.InRange) (h : b.Move b') : b'.InRange := by
  obtain ⟨hlo, hhi, hdisc⟩ := id hb
  cases h with
  | answer h => cases h <;> simpa [PortBlock.InRange, PortBlock.complete_eq] using hb
  | disable => exact ⟨hlo, hhi, by simp [PortBlock.disable]⟩
  | _ => exact hb

theorem PortBlock.Arrival.inRange (hb : b.InRange) (h : b.Arrival b') : b'.InRange := by
  obtain ⟨hlo, hhi, hdisc⟩ := id hb
  cases h with
  | enqueue => exact hb
  | discard => exact ⟨hlo, hhi, saturate_le hdisc⟩

theorem PortBlock.returnCredits_inRange (h : b.InRange) : b.returnCredits.InRange := by
  unfold PortBlock.returnCredits
  split <;> exact h

theorem PerPort.Moves.inRange {x y : PerPort PortBlock} (h : x.Moves y) (hx : ∀ p, (x.get p).InRange) (p : Port) :
    (y.get p).InRange :=
  (h p).keeps (fun _ _ hb hstep => hstep.inRange hb) (hx p)

theorem PerPort.mod_inRange {x : PerPort PortBlock} (hx : ∀ p, (x.get p).InRange) {q : Port} {f : PortBlock → PortBlock}
    (hf : (f (x.get q)).InRange) (p : Port) : ((x.mod q f).get p).InRange := by
  rw [PerPort.get_mod]
  split
  · exact hf
  · exact hx p

end

theorem Rights.quota_of_ofValue {v : Word64} {rights : Rights} (h : Rights.ofValue v = some rights) :
    1 ≤ rights.quota ∧ rights.quota ≤ 8 := by
  simp only [Rights.ofValue, Option.ite_none_right_eq_some, Option.some.injEq] at h
  obtain ⟨⟨-, hq⟩, rfl⟩ := h
  exact hq

theorem WindowDesc.bounds_of_ofWord {v : Word64} {d : WindowDesc} (h : WindowDesc.ofWord v = some d) :
    d.size ≤ 256 ∧ d.base.toNat + d.size ≤ 2 ^ 28 ∧ d.memBase.toNat + d.size ≤ 2 ^ 24 := by
  by_cases hbad : WindowDesc.BadWord v
  · rw [WindowDesc.ofWord_of_bad hbad] at h
    cases h
  · rw [WindowDesc.ofWord_of_not_bad hbad, Option.some.injEq] at h
    subst h
    simp only [WindowDesc.BadWord, not_or] at hbad
    obtain ⟨-, hs, hb, hm⟩ := hbad
    have hbase := (WindowDesc.ofFields v).base.isLt
    have hmem := (WindowDesc.ofFields v).memBase.isLt
    omega

section
variable {s : State} {e : Event}

theorem State.urgentOrRotation_deciding {how : Deciding} {w : Winner} (h : s.urgentOrRotation = some (how, w)) :
    how ≠ .hold ∧ how ≠ .slot := by
  unfold State.urgentOrRotation at h
  split at h <;> obtain ⟨_, -, hx⟩ := Option.map_eq_some_iff.mp h <;> cases hx <;> simp

/-- A hold starts and goes on only for the favoured port (R127). -/
theorem State.favoured_of_decision {how : Deciding} {w : Winner} (h : s.decision = some (how, w)) (hhow : how = .hold ∨ how = .slot) :
    s.sched.favoured.isSome = true := by
  by_contra hf
  have hother : s.favouredOrOther = s.urgentOrRotation :=
    State.favouredOrOther_of_neither (by simp_all [State.favouredCandidate])
  have hno {d : Deciding × Winner} (hd : s.favouredOrOther = some d) (he : d = (how, w)) : False := by
    rw [hother, he] at hd
    obtain ⟨hhold, hslot⟩ := State.urgentOrRotation_deciding hd
    exact hhow.elim hhold hslot
  unfold State.decision at h
  split at h
  · exact hno h rfl
  · split at h
    · cases h
      simp at hhow
    · split at h
      · next d hd => exact hno hd (Option.some.inj h)
      · cases h
        simp at hhow

theorem holdOf_mem {budget n : Nat} (h : n ∈ holdOf budget) : n = budget ∧ 1 ≤ n := by
  unfold holdOf at h
  split at h
  · cases h
  · cases h
    exact ⟨rfl, by omega⟩

/-- A grant keeps the slot counter and the hold in range (R126, R127). -/
theorem State.grant_holdSound (hs : s.sched.HoldSound) (d : Fin 8) {how : Deciding} {w : Winner} (h : s.decision = some (how, w)) :
    (s.grant d how w).sched.HoldSound := by
  obtain ⟨hslot, hlo, hhi, hhold⟩ := hs
  have hsetup := s.grant_setup d how w
  have hbudget : (s.grant d how w).sched.holdBudget = s.sched.holdBudget := congrArg Setup.holdBudget hsetup
  have hfav : (s.grant d how w).sched.favoured = s.sched.favoured := congrArg Setup.favoured hsetup
  refine ⟨?_, by rwa [hbudget], by rwa [hbudget], ?_⟩
  · rw [State.grant_slotCounter]
    cases w with
    | port e =>
      unfold Scheduler.slotAfter
      dsimp only
      split
      · omega
      · exact saturate_le hslot
    | pwq q => exact saturate_le hslot
    | sweep row => exact hslot
  · intro n hn
    rw [hfav]
    change n ∈ s.sched.holdAfter how at hn
    cases how with
    | hold =>
      obtain ⟨m, hm, hn⟩ := Option.mem_bind_iff.mp hn
      obtain ⟨rfl, hpos⟩ := holdOf_mem hn
      obtain ⟨-, hm14, hsome⟩ := hhold m hm
      exact ⟨hpos, by omega, hsome⟩
    | slot =>
      obtain ⟨rfl, hpos⟩ := holdOf_mem hn
      exact ⟨hpos, by omega, State.favoured_of_decision h (.inr rfl)⟩
    | _ => cases hn

/-- A grant shortens the sweep queue at most, and leaves the Forwarder alone. -/
theorem State.issue_sweep_ext (d : Fin 8) (w : Winner) :
    (∃ q : List (BitVec 20), (s.issue d w).sweep = { s.sweep with queue := q } ∧ q.length ≤ s.sweep.queue.length)
      ∧ (s.issue d w).ext = s.ext := by
  cases w with
  | port e =>
    unfold State.issue
    dsimp only
    split <;> exact ⟨⟨s.sweep.queue, rfl, le_rfl⟩, rfl⟩
  | pwq q => exact ⟨⟨s.sweep.queue, rfl, le_rfl⟩, rfl⟩
  | sweep row => exact ⟨⟨s.sweep.queue.tail, rfl, by simp⟩, rfl⟩

/-- What SameBlocks and the ranges of the ports make of the ranges. -/
theorem State.InRange.sameBlocks {t : State} (h : s.InRange) (hb : s.SameBlocks t) (hp : ∀ p, (t.ports.get p).InRange) : t.InRange :=
  ⟨by rw [hb.setup]; exact h.setup, hp, by rw [hb.sweep]; exact h.sweep, by rw [hb.sched]; exact h.sched,
    by rw [hb.ext]; exact h.ext⟩

/-- An event that may let requests leave keeps the ranges. -/
theorem State.Leaving.inRange (he : s.Leaving e) (h : s.InRange) : e.1.InRange := by
  have hports : ∀ p, (e.1.ports.get p).InRange := by
    obtain hm | ⟨p, f, ha, rfl⟩ := he.moves
    · exact hm.inRange h.ports
    · exact PerPort.mod_inRange h.ports (ha.inRange (h.ports p))
  have hsetup : e.1.setup.InRange := by rw [he.setup]; exact h.setup
  cases he with
  | advanced p _ ha => exact h.sameBlocks ha.sameBlocks hports
  | forwarded _ hl hc hf =>
    have hext : e.1.sweep = s.sweep ∧ e.1.sched = s.sched ∧ e.1.ext.credits = s.ext.credits - 1 ∧ e.1.ext.link = s.ext.link := by
      cases hf <;> exact ⟨rfl, rfl, rfl, rfl⟩
    obtain ⟨hsweep, hsched, hcredits, hlink⟩ := hext
    refine ⟨hsetup, hports, by rw [hsweep]; exact h.sweep, by rw [hsched]; exact h.sched, ?_, ?_⟩
    · have := h.ext.1
      omega
    · rw [hlink, hl]
      simp
  | lostM =>
    obtain ⟨hsweep, hext, -⟩ := s.loseM_blocks
    obtain ⟨hslot, hlo, hhi, -⟩ := h.sched
    refine ⟨hsetup, hports, ?_, ?_, by rw [hext]; exact h.ext⟩
    · rw [hsweep]
      exact h.sweep.of_queue (by simp) s.sweep.corrected
    · rw [State.loseM_sched]
      exact ⟨hslot, hlo, hhi, by simp⟩
  | lostX =>
    obtain ⟨hsweep, hext, -⟩ := s.loseX_blocks
    refine ⟨hsetup, hports, by rw [hsweep]; exact h.sweep, by rw [State.loseX_sched]; exact h.sched, ?_⟩
    rw [hext]
    exact ⟨by simp, fun _ => rfl⟩
  | _ => exact ⟨hsetup, hports, h.sweep, h.sched, h.ext⟩

/-- What the end of work leaves of the Sweep Generator, the Scheduler and the Forwarder: all but their tags and counts. -/
structure State.KeepsAllButTags (s t : State) : Prop where
  sweep : ∃ n, t.sweep = { s.sweep with corrected := n }
  sched : ∃ dtags n, t.sched = { s.sched with dtags := dtags, late := n }
  ext   : ∃ xtags n, t.ext = { s.ext with xtags := xtags, late := n }

theorem State.takeRead_keeps (d : Fin 8) (f : TrackerEntry) (r : MemResp) : s.KeepsAllButTags (s.takeRead d f r).1 := by
  unfold State.takeRead
  dsimp only
  split <;> exact ⟨⟨_, rfl⟩, ⟨_, _, rfl⟩, ⟨_, _, rfl⟩⟩

theorem State.takeSweep_keeps (d : Fin 8) (row : BitVec 20) (r : MemResp) : s.KeepsAllButTags (s.takeSweep d row r).1 := by
  unfold State.takeSweep
  dsimp only
  split <;> exact ⟨⟨_, rfl⟩, ⟨_, _, rfl⟩, ⟨_, _, rfl⟩⟩

theorem State.takeX_keeps (f : TrackerEntry) (c : XCompletion) : s.KeepsAllButTags (s.takeX f c).1 := by
  unfold State.takeX
  dsimp only
  split <;> exact ⟨⟨_, rfl⟩, ⟨_, _, rfl⟩, ⟨_, _, rfl⟩⟩

theorem State.staleTag_keeps (f : TrackerEntry) (tag : Fin 8) : s.KeepsAllButTags (s.staleTag f tag) := by
  unfold State.staleTag
  split <;> exact ⟨⟨_, rfl⟩, ⟨_, _, rfl⟩, ⟨_, _, rfl⟩⟩

theorem State.KeepsAllButTags.sameBlocks {t u : State} (h : s.KeepsAllButTags t) (hb : t.SameBlocks u) : s.KeepsAllButTags u := by
  obtain ⟨hsweep, hsched, hext⟩ := h
  exact ⟨by rwa [hb.sweep], by rwa [hb.sched], by rwa [hb.ext]⟩

theorem State.takePwq_keeps (d : Fin 8) (q : PwqEntry) (r : MemResp) : s.KeepsAllButTags (s.takePwq d q r).1 := by
  have hfree : s.KeepsAllButTags (s.setDtag d .free) := ⟨⟨_, rfl⟩, ⟨_, _, rfl⟩, ⟨_, _, rfl⟩⟩
  have hcounted : s.KeepsAllButTags (s.setDtag d .free).countCorrected := ⟨⟨_, rfl⟩, ⟨_, _, rfl⟩, ⟨_, _, rfl⟩⟩
  unfold State.takePwq
  dsimp only
  split
  · exact hfree.sameBlocks (State.removePwq_sameBlocks _ _ _ _)
  · exact hcounted.sameBlocks (State.removePwq_sameBlocks _ _ _ _)
  all_goals exact hfree.sameBlocks (State.removePwq_sameBlocks _ _ _ _)

theorem State.expiredPwq_keeps (d : Fin 8) (q : PwqEntry) :
    s.KeepsAllButTags ((s.setDtag d .stale).removePwq q .timeout (some .writeTimeout)).1 := by
  have hstale : s.KeepsAllButTags (s.setDtag d .stale) := ⟨⟨_, rfl⟩, ⟨_, _, rfl⟩, ⟨_, _, rfl⟩⟩
  exact hstale.sameBlocks (State.removePwq_sameBlocks _ _ _ _)

theorem State.InRange.keepsAllButTags {t : State} (h : s.InRange) (hk : s.KeepsAllButTags t) (hsetup : t.setup.InRange)
    (hports : ∀ p, (t.ports.get p).InRange) : t.InRange := by
  obtain ⟨⟨n, hsweep⟩, ⟨_, _, hsched⟩, _, _, hext⟩ := hk
  exact ⟨hsetup, hports, by rw [hsweep]; exact h.sweep.of_queue (q := s.sweep.queue) le_rfl n, by rw [hsched]; exact h.sched,
    by rw [hext]; exact h.ext⟩

/-- An event that lets no request leave keeps the ranges. -/
theorem State.Staying.inRange (he : s.Staying e) (h : s.InRange) : e.1.InRange := by
  have hports : ∀ p, (e.1.ports.get p).InRange := he.answers.moves.inRange h.ports
  have hsetup : e.1.setup.InRange := by rw [he.setup]; exact h.setup
  cases he with
  | readyX => exact ⟨hsetup, hports, h.sweep, h.sched, h.ext.1, by simp⟩
  | granted d how w hd hdec =>
    obtain ⟨⟨q, hsweep, hq⟩, hext⟩ := State.issue_sweep_ext (s := s) d w
    refine ⟨hsetup, hports, ?_, State.grant_holdSound h.sched d hdec, ?_⟩
    · change (s.issue d w).sweep.Bounded
      rw [hsweep]
      exact h.sweep.of_queue hq s.sweep.corrected
    · change (s.issue d w).ext.CreditsBounded
      rw [hext]
      exact h.ext
  | readEnds d i n f r => exact h.keepsAllButTags (s.takeRead_keeps d f r) hsetup hports
  | writeEnds d slot q r => exact h.keepsAllButTags (s.takePwq_keeps d q r) hsetup hports
  | sweepEnds d row timer r => exact h.keepsAllButTags (s.takeSweep_keeps d row r) hsetup hports
  | accessEnds i f c => exact h.keepsAllButTags (s.takeX_keeps f c) hsetup hports
  | credited n hl => exact ⟨hsetup, hports, h.sweep, h.sched, Nat.min_le_left _ _, fun hd => by rw [hl] at hd; cases hd⟩
  | writeExpires slot q d => exact h.keepsAllButTags (s.expiredPwq_keeps d q) hsetup hports
  | entryExpires i f tag =>
    obtain ⟨hsweep, hsched, hext⟩ := s.staleTag_keeps f tag
    exact h.keepsAllButTags ⟨hsweep, hsched, hext⟩ hsetup hports
  | period => exact ⟨hsetup, hports, h.sweep.period, h.sched, h.ext⟩
  | rowQueued _ hq => exact ⟨hsetup, hports, h.sweep.period.queueRow hq, h.sched, h.ext⟩
  | _ => exact ⟨hsetup, hports, h.sweep, h.sched, h.ext⟩

theorem State.ServiceOutcome.ports_inRange {p : Port} {r : Request} {row : CtrlRow} {v : Served} (hv : s.ServiceOutcome p r row v)
    (h : ∀ q, (s.ports.get q).InRange) : ∀ q, (v.state.ports.get q).InRange := by
  obtain hm | ⟨q, -, hq, -⟩ | ⟨-, q, rights, hval, -, hm⟩ := hv.moves
  · exact hm.inRange h
  · rw [hq]
    exact PerPort.mod_inRange h (h q)
  · obtain ⟨hlo, hhi⟩ := Rights.quota_of_ofValue hval
    exact hm.inRange (PerPort.mod_inRange h ⟨hlo, hhi, (h q).2.2⟩)

/-- Every service keeps the ranges: a value out of range is refused (R162). -/
theorem State.ServiceOutcome.inRange {p : Port} {r : Request} {row : CtrlRow} {v : Served} (hv : s.ServiceOutcome p r row v)
    (h : s.InRange) : v.state.InRange := by
  have hports := hv.ports_inRange h.ports
  obtain ⟨⟨hmark, hcomb, hm, hx, hwin⟩, hquota, hsweep, hsched, hext⟩ := id h
  obtain ⟨hqueue, hrow, hrows, hint, htimer⟩ := id hsweep
  obtain ⟨hslot, hlo, hhi, hhold⟩ := id hsched
  cases hv with
  | descriptor d hd => exact ⟨⟨hmark, hcomb, hm, hx, WindowDesc.bounds_of_ofWord hd⟩, hports, hsweep, hsched, hext⟩
  | rights q rights hval hidx e he =>
    have hw : (s.modPort q fun b => { b with rights := rights }).InRange := by
      obtain ⟨hqlo, hqhi⟩ := Rights.quota_of_ofValue hval
      exact ⟨h.setup, PerPort.mod_inRange h.ports ⟨hqlo, hqhi, (hquota q).2.2⟩, hsweep, hsched, hext⟩
    exact hw.sameBlocks he.sameBlocks hports
  | favoured f => exact ⟨h.setup, hports, hsweep, ⟨by simp, hlo, hhi, by simp⟩, hext⟩
  | holdBudget n hn => exact ⟨h.setup, hports, hsweep, ⟨hslot, hn.1, hn.2, hhold⟩, hext⟩
  | watermark n hn => exact ⟨⟨hn, hcomb, hm, hx, hwin⟩, hports, hsweep, hsched, hext⟩
  | combineWindow n hn => exact ⟨⟨hmark, hn, hm, hx, hwin⟩, hports, hsweep, hsched, hext⟩
  | timeoutM n hn => exact ⟨⟨hmark, hcomb, hn, hx, hwin⟩, hports, hsweep, hsched, hext⟩
  | timeoutX n hn => exact ⟨⟨hmark, hcomb, hm, hn, hwin⟩, hports, hsweep, hsched, hext⟩
  | sweepInterval n hn => exact ⟨h.setup, hports, ⟨hqueue, hrow, hrows, hn, sweepPeriod_eq_none⟩, hsched, hext⟩
  | sweepRows n hn =>
    refine ⟨h.setup, hports, ⟨hqueue, ?_, hn.2, hint, htimer⟩, hsched, hext⟩
    change (if n ≤ s.sweep.row then 0 else s.sweep.row) < n
    split <;> omega
  | warmReset =>
    exact ⟨h.setup, hports, ⟨Nat.zero_le 4, hrow, hrows, hint, htimer⟩, ⟨Nat.zero_le 3, hlo, hhi, fun _ hn => nomatch hn⟩, hext⟩
  | _ => exact ⟨h.setup, hports, hsweep, hsched, hext⟩

theorem State.InRange.handAll (h : s.InRange) (rs : List ErrorRecord) : (s.handAll rs).InRange := by
  obtain ⟨-, -, -, -, -, hsched, hsweep, hext, -⟩ := s.handAll_frame rs
  refine ⟨by rw [State.handAll_setup]; exact h.setup, fun p => ?_, by rw [hsweep]; exact h.sweep, by rw [hsched]; exact h.sched,
    by rw [hext]; exact h.ext⟩
  rw [State.handAll_port]
  exact h.ports p

theorem State.InRange.close (h : e.1.InRange) : (Event.close e).InRange :=
  State.InRange.handAll (s := { e.1 with ports := e.1.ports.map PortBlock.returnCredits })
    ⟨h.setup, fun p => by rw [PerPort.get_map]; exact PortBlock.returnCredits_inRange (h.ports p), h.sweep, h.sched, h.ext⟩ e.2

theorem State.InRange.service (h : s.InRange) {p : Port} {r : Request} {row : CtrlRow} {v : Served}
    (hw : s.engineWinner = some (p, r)) (hv : (s.select p).ServiceOutcome p r row v) : (v.reply p r.tag).1.InRange := by
  have hsel : (s.select p).InRange := ⟨h.setup, (State.select_moves hw).inRange h.ports, h.sweep, h.sched, h.ext⟩
  have hout := hv.inRange hsel
  exact ⟨hout.setup, (v.reply_moves p r.tag).inRange hout.ports, hout.sweep, hout.sched, hout.ext⟩

theorem State.reset_inRange : State.reset.InRange :=
  ⟨by unfold Setup.InRange; decide, fun p => by cases p <;> exact ⟨by decide, by decide, by decide⟩, by unfold SweepGen.Bounded; decide,
    by unfold Scheduler.HoldSound; decide, by unfold Extension.CreditsBounded; decide⟩

/-- Every command keeps the ranges. -/
theorem exec_inRange {i : Instr} {t : State} (hs : s.InRange) (h : exec i s = .next t) : t.InRange := by
  cases exec_effect h with
  | reset =>
    obtain ⟨hsetup, hports, hsweep, hsched, hext⟩ := State.reset_inRange
    exact ⟨hsetup, hports, hsweep, hsched, hext⟩
  | linkReady p => exact ⟨hs.setup, PerPort.mod_inRange hs.ports (hs.ports p), hs.sweep, hs.sched, hs.ext⟩
  | linkLost p hd rs =>
    exact State.InRange.handAll (s := (s.modPort p (·.linkLost)).orphanPort p)
      ⟨hs.setup, PerPort.mod_inRange hs.ports (hs.ports p), hs.sweep, hs.sched, hs.ext⟩ rs
  | unserved _ p r st hw => exact (hs.service hw (row := .commit) (.unchanged st 0)).close
  | served row p r v hw _ _ hv => exact (hs.service hw hv).close
  | leaving _ e he => exact (he.inRange hs).close
  | staying _ e he => exact (he.inRange hs).handAll e.2

end

/-- Settles O56: events keep the ranges by what they do to each block, and the Engine refuses the values out of range. -/
theorem everyStepKeepsSettingsAndCountersInRange : Obligations.EveryStepKeepsSettingsAndCountersInRange := by
  intro s t hset hsweep hsched hext h
  obtain ⟨hsetup, hports⟩ := State.settingsInRange_iff.mp hset
  have ht : t.InRange := step_keeps (fun u rest hu => ⟨hu.setup, hu.ports, hu.sweep, hu.sched, hu.ext⟩)
    (fun _ _ _ hu hx => exec_inRange hu hx) ⟨hsetup, hports, hsweep, hsched, hext⟩ h
  exact ⟨State.settingsInRange_iff.mpr ⟨ht.setup, ht.ports⟩, ht.sweep, ht.sched, ht.ext⟩

end Sys2Proof.Machine
end

section
/-! What events leave of the tracker and of the heads, and with it that no two live entries of a port share a tag (R97). -/

namespace Sys2Proof.Machine

/-! ### What is left of the tracker -/

/-- What an entry that is not freed keeps: its index, port and tag, and that it is an orphan; and it is a live FLUSH only if it was
(R95, R111). -/
structure TrackerEntry.Remains (e e' : TrackerEntry) : Prop where
  index : e'.index = e.index
  port : e'.port = e.port
  tag : e'.tag = e.tag
  orphan : e.orphan = true → e'.orphan = true
  flush : e'.isLiveFlush = true → e.isLiveFlush = true

theorem TrackerEntry.Remains.refl (e : TrackerEntry) : e.Remains e := ⟨rfl, rfl, rfl, id, id⟩

/-- The second tracker is what is left of the first: each entry freed or remaining, in the same order. -/
def Thinned (es es' : List TrackerEntry) : Prop :=
  ∃ f : TrackerEntry → Option TrackerEntry, (∀ e e', f e = some e' → e.Remains e') ∧ es' = es.filterMap f

section
variable {es es' es'' : List TrackerEntry}

theorem Thinned.map {f : TrackerEntry → TrackerEntry} (hf : ∀ e : TrackerEntry, e.Remains (f e)) : Thinned es (es.map f) :=
  ⟨fun e => some (f e), fun e e' h => by cases h; exact hf e, by simp⟩

theorem Thinned.filter (P : TrackerEntry → Bool) : Thinned es (es.filter P) :=
  ⟨Option.guard P, fun e e' h => by
    obtain ⟨rfl, -⟩ := Option.guard_eq_some_iff.mp h
    exact .refl e, by simp⟩

theorem Thinned.refl (es : List TrackerEntry) : Thinned es es :=
  ⟨some, fun e e' h => by cases h; exact .refl e, by simp⟩

theorem Thinned.of_eq (h : es' = es) : Thinned es es' := h ▸ .refl es

theorem Thinned.trans (h : Thinned es es') (h' : Thinned es' es'') : Thinned es es'' := by
  obtain ⟨f, hf, rfl⟩ := h
  obtain ⟨g, hg, rfl⟩ := h'
  refine ⟨fun e => (f e).bind g, fun e e'' he => ?_, by rw [List.filterMap_filterMap]⟩
  obtain ⟨e', hfe, hge⟩ := Option.bind_eq_some_iff.mp he
  have h1 := hf e e' hfe
  have h2 := hg e' e'' hge
  exact ⟨h2.index.trans h1.index, h2.port.trans h1.port, h2.tag.trans h1.tag, fun ho => h2.orphan (h1.orphan ho),
    fun hf => h1.flush (h2.flush hf)⟩

theorem Thinned.length_le (h : Thinned es es') : es'.length ≤ es.length := by
  obtain ⟨f, -, rfl⟩ := h
  exact List.length_filterMap_le f es

theorem Thinned.exists_of_mem (h : Thinned es es') {e' : TrackerEntry} (he : e' ∈ es') : ∃ e ∈ es, e.Remains e' := by
  obtain ⟨f, hf, rfl⟩ := h
  obtain ⟨e, hmem, hfe⟩ := List.mem_filterMap.mp he
  exact ⟨e, hmem, hf e e' hfe⟩

/-- A relation between entries that what remains of them keeps, held by every two of the tracker, is held by every two left. -/
theorem Thinned.pairwise (h : Thinned es es') {R : TrackerEntry → TrackerEntry → Prop}
    (hR : ∀ a b a' b', a.Remains a' → b.Remains b' → R a b → R a' b') (hp : es.Pairwise R) : es'.Pairwise R := by
  obtain ⟨f, hf, rfl⟩ := h
  exact List.pairwise_filterMap.mpr (hp.imp fun {a b} hab a' ha b' hb => hR a b a' b' (hf a a' ha) (hf b b' hb) hab)

theorem TrackerEntry.Apart.remains {a b a' b' : TrackerEntry} (ha : a.Remains a') (hb : b.Remains b') (h : a.Apart b) :
    a'.Apart b' := by
  refine ⟨by rw [ha.index, hb.index]; exact h.1, fun ⟨hoa, hob, hport, htag⟩ => h.2 ⟨?_, ?_, ?_, ?_⟩⟩
  · exact Bool.eq_false_iff.mpr fun ho => by simp [ha.orphan ho] at hoa
  · exact Bool.eq_false_iff.mpr fun ho => by simp [hb.orphan ho] at hob
  · rw [← ha.port, ← hb.port, hport]
  · rw [← ha.tag, ← hb.tag, htag]

end

/-! ### What the operations leave of the tracker -/

section
variable (s : State)

theorem answerOwed_thins (st : Status) (is : List (Fin 24)) : Thinned s.tracker.entries (answerOwed st is s).tracker.entries := by
  induction is generalizing s with
  | nil => exact .refl _
  | cons i is ih =>
    unfold answerOwed
    cases s.entryAt i with
    | some e => exact (Thinned.filter _).trans (ih (s.endEntry e st []))
    | none => exact ih s

theorem TrackerEntry.afterGone_remains {gone : Fin 16 → Bool} {e e' : TrackerEntry} (h : e.afterGone gone = some e') :
    e.Remains e' := by
  unfold TrackerEntry.afterGone at h
  split at h
  · next awaited hw =>
    dsimp only at h
    split at h
    · cases h
    · cases h; exact ⟨rfl, rfl, rfl, id, by simp [TrackerEntry.isLiveFlush, hw]⟩
  · cases h; exact .refl e

theorem State.shrinkFlushes_thins (gone : Fin 16 → Bool) : Thinned s.tracker.entries (s.shrinkFlushes gone).tracker.entries :=
  ⟨fun e => e.afterGone gone, fun _ _ h => TrackerEntry.afterGone_remains h, by simp [State.shrinkFlushes, shrinkFlushes_eq]⟩

theorem State.removePwq_thins (q : PwqEntry) (st : Status) (failed : Option RecordKind) :
    Thinned s.tracker.entries (s.removePwq q st failed).1.tracker.entries := by
  unfold State.removePwq
  refine (Thinned.trans ?_ (answerOwed_thins _ st q.owed)).trans ((State.shrinkFlushes_thins _ _).trans (Thinned.map fun e => ?_))
  · split <;> exact .refl _
  · split <;> exact ⟨rfl, rfl, rfl, id, id⟩

theorem State.discardPwq_thins : Thinned s.tracker.entries s.discardPwq.1.tracker.entries :=
  (answerOwed_thins { s.withPwq [] with ports := flagAll s.pwq.entries s.ports } .targetDown
    (s.pwq.entries.flatMap (·.owed))).trans (State.shrinkFlushes_thins _ _)

theorem State.endWaiting_tracker (g : Progress) (p : Port) : (s.endWaiting g p).1.tracker = s.tracker := by
  unfold State.endWaiting
  dsimp only
  split
  · split
    · split <;> rfl
    · rfl
  · rfl

theorem State.endWaitingAll_tracker (g : Progress) (ps : List Port) (e : Event) :
    (State.endWaitingAll g ps e).1.tracker = e.1.tracker := by
  induction ps generalizing e with
  | nil => rfl
  | cons p ps ih => exact (ih ((e.1.endWaiting g p).1, e.2 ++ (e.1.endWaiting g p).2)).trans (State.endWaiting_tracker e.1 g p)

theorem State.setEntryState_thins (i : Fin 24) (st : TrackState) :
    Thinned s.tracker.entries (s.setEntryState i st).tracker.entries :=
  Thinned.map fun e => by split <;> exact ⟨rfl, rfl, rfl, id, id⟩

theorem State.issue_thins (d : Fin 8) (w : Winner) : Thinned s.tracker.entries (s.issue d w).tracker.entries := by
  cases w with
  | port e =>
    unfold State.issue
    dsimp only
    split
    · exact s.setEntryState_thins _ _
    all_goals exact .refl _
  | pwq q => exact .refl _
  | sweep row => exact .refl _

end

/-! ### What events leave of the heads -/

/-- A head that is gone, or stands where it stood with a barrier that is not newly held. -/
def PortBlock.Settled (b b' : PortBlock) : Prop :=
  b'.progress = .examine ∨ b'.ingress = b.ingress ∧ b'.progress = b.progress ∧ (b.barrier = false → b'.barrier = false)

section
variable {b b' b'' : PortBlock}

theorem PortBlock.Settled.refl (b : PortBlock) : b.Settled b := .inr ⟨rfl, rfl, id⟩

theorem PortBlock.Settled.trans (h : b.Settled b') (h' : b'.Settled b'') : b.Settled b'' := by
  obtain h' | ⟨hi', hg', hb'⟩ := h'
  · exact .inl h'
  · obtain h | ⟨hi, hg, hb⟩ := h
    · exact .inl (hg'.trans h)
    · exact .inr ⟨hi'.trans hi, hg'.trans hg, fun h => hb' (hb h)⟩

theorem PortBlock.Answer.settled (h : b.Answer b') : b.Settled b' := by
  cases h with
  | complete => rw [PortBlock.complete_eq]; exact .inr ⟨rfl, rfl, id⟩
  | flag => exact .inr ⟨rfl, rfl, id⟩
  | release => exact .inr ⟨rfl, rfl, fun _ => rfl⟩

theorem PortBlock.Answers.settled (h : b.Answers b') : b.Settled b' :=
  h.keeps (P := fun c => b.Settled c) (fun _ _ hc hstep => hc.trans hstep.settled) (.refl b)

theorem PortBlock.returnCredits_settled (b : PortBlock) : b.Settled b.returnCredits := by
  unfold PortBlock.returnCredits
  split <;> exact .inr ⟨rfl, rfl, id⟩

end

theorem PerPort.settled_mod {x : PerPort PortBlock} {p : Port} {f : PortBlock → PortBlock} (h : (x.get p).Settled (f (x.get p)))
    (q : Port) : (x.get q).Settled ((x.mod p f).get q) := by
  rw [PerPort.get_mod]
  split
  · next hq => rw [hq]; exact h
  · exact .refl _

/-! ### Events that make no entry -/

/-- Entries are freed or remain, and heads are gone or stand where they stood. -/
structure State.Calm (s t : State) : Prop where
  tracker : Thinned s.tracker.entries t.tracker.entries
  ports : ∀ p, (s.ports.get p).Settled (t.ports.get p)

section
variable {s t u : State} {e : Event}

theorem State.Calm.refl (s : State) : s.Calm s := ⟨.refl _, fun _ => .refl _⟩

theorem State.Calm.trans (h : s.Calm t) (h' : t.Calm u) : s.Calm u :=
  ⟨h.tracker.trans h'.tracker, fun p => (h.ports p).trans (h'.ports p)⟩

theorem State.calm_modPort {p : Port} {f : PortBlock → PortBlock} (h : (s.ports.get p).Settled (f (s.ports.get p))) :
    s.Calm (s.modPort p f) := ⟨.refl _, PerPort.settled_mod h⟩

theorem State.calm_leave (p : Port) : s.Calm (s.modPort p (·.leave)) := State.calm_modPort (.inl rfl)

theorem State.endWaiting_calm (s : State) (g : Progress) (p : Port) : s.Calm (s.endWaiting g p).1 := by
  refine ⟨.of_eq (by rw [State.endWaiting_tracker]), ?_⟩
  unfold State.endWaiting
  dsimp only
  split
  · split
    · split
      · exact PerPort.settled_mod (.inl rfl)
      · exact PerPort.settled_mod (.inl rfl)
    · exact fun _ => .refl _
  · exact fun _ => .refl _

theorem State.endWaitingAll_calm (g : Progress) (ps : List Port) (e : Event) : e.1.Calm (State.endWaitingAll g ps e).1 := by
  induction ps generalizing e with
  | nil => exact .refl _
  | cons p ps ih => exact (State.endWaiting_calm e.1 g p).trans (ih ((e.1.endWaiting g p).1, e.2 ++ (e.1.endWaiting g p).2))

theorem State.loseM_calm (s : State) : s.Calm s.loseM.1 := by
  rw [State.loseM_eq]
  have hreads : s.Calm s.readsLost := ⟨Thinned.filter _, fun p => (s.ports.completeAll_answers _ _ p).settled⟩
  have hqueue : s.readsLost.Calm s.queueLost :=
    ⟨s.readsLost.discardPwq_thins, fun p => (s.readsLost.discardPwq_answers p).settled⟩
  exact (hreads.trans hqueue).trans (State.endWaitingAll_calm _ _ (s.queueLost, s.readsLost.discardPwq.2))

theorem State.loseX_calm (s : State) : s.Calm s.loseX.1 := by
  rw [State.loseX_eq]
  have hacc : s.Calm s.accessesLost := ⟨Thinned.filter _, fun p => (s.ports.completeAll_answers _ _ p).settled⟩
  exact hacc.trans (State.endWaitingAll_calm _ _ (s.accessesLost, []))

theorem State.Staying.thins (h : s.Staying e) : Thinned s.tracker.entries e.1.tracker.entries := by
  cases h with
  | granted d how w => exact s.issue_thins d w
  | readEnds d i n f r =>
    unfold State.takeRead
    dsimp only
    split <;> exact Thinned.filter _
  | writeEnds d slot q r =>
    unfold State.takePwq
    dsimp only
    split
    · exact (s.setDtag d .free).removePwq_thins q _ _
    · exact (s.setDtag d .free).countCorrected.removePwq_thins q _ _
    all_goals exact (s.setDtag d .free).removePwq_thins q _ _
  | sweepEnds d row timer r =>
    unfold State.takeSweep
    dsimp only
    split <;> exact .refl _
  | accessEnds i f c =>
    unfold State.takeX
    dsimp only
    split <;> exact Thinned.filter _
  | writeExpires slot q d => exact (s.setDtag d .stale).removePwq_thins q _ _
  | entryExpires i f tag =>
    have htracker : (s.staleTag f tag).tracker = s.tracker := by
      unfold State.staleTag
      split <;> rfl
    rw [← htracker]
    exact Thinned.filter _
  | _ => exact .refl _

theorem State.Staying.calm (h : s.Staying e) : s.Calm e.1 := ⟨h.thins, fun p => (h.answers p).settled⟩

theorem State.handAll_calm (s : State) (rs : List ErrorRecord) : s.Calm (s.handAll rs) := by
  obtain ⟨-, -, -, -, htracker, -⟩ := s.handAll_frame rs
  refine ⟨.of_eq (by rw [htracker]), fun p => ?_⟩
  rw [State.handAll_port]
  exact .inr ⟨rfl, rfl, id⟩

theorem Event.record_calm (e : Event) : e.1.Calm (Event.record e) := e.1.handAll_calm e.2

theorem Event.close_calm (e : Event) : e.1.Calm (Event.close e) := by
  have hret : e.1.Calm { e.1 with ports := e.1.ports.map PortBlock.returnCredits } :=
    ⟨.refl _, fun p => by rw [PerPort.get_map]; exact PortBlock.returnCredits_settled _⟩
  exact hret.trans (State.handAll_calm _ e.2)

/-! ### Unique tags -/

theorem State.TagsUnique.heads (h : s.TagsUnique) (p : Port) : s.HeadSound p (s.ports.get p) := PerPort.all_iff_get.mp h.2.2 p

/-- No live entry of a port holds a tag, written out. -/
theorem State.tagLive_eq_false {p : Port} {tag : BitVec 8} :
    s.tagLive p tag = false ↔ ∀ e ∈ s.tracker.entries, e.port = p → e.tag = tag → e.orphan = true := by
  simp [State.tagLive]

theorem State.tagLive_of_thinned {p : Port} {tag : BitVec 8} (hl : s.tagLive p tag = false)
    (h : Thinned s.tracker.entries t.tracker.entries) : t.tagLive p tag = false := by
  rw [State.tagLive_eq_false] at hl ⊢
  intro e' he' hport htag
  obtain ⟨e, he, hr⟩ := h.exists_of_mem he'
  exact hr.orphan (hl e he (hr.port ▸ hport) (hr.tag ▸ htag))

/-- A head stays sound while its block keeps where it stands and no live entry takes its tag. -/
theorem State.HeadSound.settled {p : Port} {b b' : PortBlock} (h : s.HeadSound p b) (hb : b.Settled b')
    (ht : ∀ tag, s.tagLive p tag = false → t.tagLive p tag = false) : t.HeadSound p b' := by
  obtain hg | ⟨hi, hg, -⟩ := hb
  · exact ⟨fun _ => hg, fun _ _ hw => by simp [hg] at hw⟩
  · refine ⟨fun hi' => hg.trans (h.1 (hi ▸ hi')), fun r hr hw => ?_⟩
    obtain ⟨hkind, htag⟩ := h.2 r (hi ▸ hr) (hg ▸ hw)
    exact ⟨hkind, fun hn => ht _ (htag hn)⟩

theorem State.TagsUnique.calm (h : s.TagsUnique) (hc : s.Calm t) : t.TagsUnique :=
  ⟨hc.tracker.length_le.trans h.1,
    hc.tracker.pairwise (fun _ _ _ _ ha hb hab => TrackerEntry.Apart.remains ha hb hab) h.2.1,
    PerPort.all_iff_get.mpr fun p =>
      State.HeadSound.settled (h.heads p) (hc.ports p) fun _ hl => State.tagLive_of_thinned hl hc.tracker⟩

/-- While fewer than `n` numbers are held, the search for the lowest free one finds one. -/
theorem exists_find?_finRange {α : Type} {n : Nat} (as : List α) (num : α → Fin n) (h : as.length < n) :
    ∃ i, (List.finRange n).find? (fun i => as.all (num · ≠ i)) = some i := by
  by_contra hnone
  have hall : ∀ i : Fin n, i ∈ as.map num := by
    intro i
    have := List.find?_eq_none.mp (Option.eq_none_iff_forall_ne_some.mpr fun i hi => hnone ⟨i, hi⟩) i (List.mem_finRange i)
    simpa using this
  have hle : (List.finRange n).length ≤ (as.map num).length := ((List.nodup_finRange n).subperm fun i _ => hall i).length_le
  simp at hle
  omega

/-- While the tracker is not full, the index taken next is held by no entry (R96). -/
theorem State.freeIndex_ne (h : s.tracker.entries.length < 24) : ∀ e ∈ s.tracker.entries, e.index ≠ s.freeIndex := by
  obtain ⟨i, hi⟩ := exists_find?_finRange s.tracker.entries (·.index) h
  have hfree : s.freeIndex = i := by rw [State.freeIndex, hi, Option.getD_some]
  simpa [hfree] using List.find?_some hi

/-- While the queue is not full, the slot taken next is held by no entry (R71). -/
theorem State.freeSlot_ne (h : s.pwq.entries.length < 16) : ∀ q ∈ s.pwq.entries, q.slot ≠ s.freeSlot := by
  obtain ⟨i, hi⟩ := exists_find?_finRange s.pwq.entries (·.slot) h
  have hfree : s.freeSlot = i := by rw [State.freeSlot, hi, Option.getD_some]
  simpa [hfree] using List.find?_some hi

/-- A new entry under a tag that no live entry of its port holds, at a head that leaves. -/
theorem State.TagsUnique.newEntry (h : s.TagsUnique) {p : Port} {e : TrackerEntry} (hroom : s.tracker.entries.length < 24)
    (hindex : e.index = s.freeIndex) (hport : e.port = p) (htag : s.tagLive p e.tag = false)
    (hentries : t.tracker.entries = s.tracker.entries ++ [e]) (hp : (t.ports.get p).progress = .examine)
    (hq : ∀ q, q ≠ p → t.ports.get q = s.ports.get q) : t.TagsUnique := by
  refine ⟨by simp [hentries]; omega, ?_, PerPort.all_iff_get.mpr fun q => ?_⟩
  · rw [hentries, List.pairwise_append]
    refine ⟨h.2.1, List.pairwise_singleton _ _, fun a ha b hb => ?_⟩
    obtain rfl := List.mem_singleton.mp hb
    refine ⟨hindex ▸ State.freeIndex_ne hroom a ha, fun ⟨hoa, _, hpa, hta⟩ => ?_⟩
    simp [State.tagLive_eq_false.mp htag a ha (hpa.trans hport) hta] at hoa
  · by_cases hqp : q = p
    · rw [hqp]
      exact ⟨fun _ => hp, fun _ _ hw => by simp [hp] at hw⟩
    · rw [hq q hqp]
      refine State.HeadSound.settled (h.heads q) (.refl _) fun tag hl => ?_
      rw [State.tagLive_eq_false] at hl ⊢
      intro f hf hfp hft
      rw [hentries, List.mem_append, List.mem_singleton] at hf
      obtain hf | rfl := hf
      · exact hl f hf hfp hft
      · exact absurd (hfp.symm.trans hport) hqp

/-- A head that waits past step 4 has a tag that no live entry of its port holds (R58). -/
theorem State.PastTags.sound {p : Port} {r : Request} (h : s.PastTags p r) (hs : s.HeadSound p (s.ports.get p))
    (hi : (s.ports.get p).ingress.head? = some r) :
    (r.posted = true ∨ r.needsRoom = true) ∧ (r.needsRoom = true → s.tagLive p r.tag = false) := by
  obtain hw | ⟨-, hkind, htag⟩ := h
  · exact hs.2 r hi hw
  · exact ⟨hkind, htag⟩

theorem State.TagsUnique.wait (h : s.TagsUnique) {p : Port} {r : Request} {rest : List Request}
    (hi : (s.ports.get p).ingress = r :: rest) (g : Progress) (c : Option Classification)
    (hg : g.PastBarrier → s.PastTags p r) : (s.waitHead p g c).1.TagsUnique := by
  refine ⟨h.1, h.2.1, PerPort.all_iff_get.mpr fun q => ?_⟩
  by_cases hq : q = p
  · rw [hq]
    refine ⟨fun he => ?_, fun r' hr' hw => ?_⟩
    · simp [State.waitHead, PortBlock.wait, hi] at he
    · simp only [State.waitHead, State.modPort_ports, PerPort.get_mod_same, PortBlock.wait, hi, List.head?_cons] at hr' hw
      cases hr'
      exact (hg hw).sound (h.heads p) (by simp [hi])
  · have hports : (s.waitHead p g c).1.ports.get q = s.ports.get q := PerPort.get_mod_other _ _ hq
    rw [hports]
    exact h.heads q

end

/-! ### The outcomes of a head -/

section
variable {s : State} {p : Port} {r : Request} {e : Event}

theorem Request.needsRoom_of_kind (hk : r.kind ≠ .write) (h : r.posted = true ∨ r.needsRoom = true) : r.needsRoom = true :=
  h.resolve_left (by simp [Request.posted_eq_false_of_kind hk])

/-- Every outcome of a head keeps the tags unique: an entry is made only behind step 4 (R58, R96). -/
theorem State.HeadOutcome.tagsUnique (ho : s.HeadOutcome p r e) {rest : List Request}
    (hi : (s.ports.get p).ingress = r :: rest) (h : s.TagsUnique) : e.1.TagsUnique := by
  have hleft : ∀ (t : State) (f : PortBlock → PortBlock) (q : Port), q ≠ p → t.ports = s.ports →
      (t.modPort p f).ports.get q = s.ports.get q := fun t f q hq ht => by
    rw [State.modPort_ports, PerPort.get_mod_other _ _ hq, ht]
  cases ho with
  | nothing => exact h
  | answered st => exact h.calm (State.calm_modPort (.inl rfl))
  | dropped kind c => exact h.calm (State.calm_modPort (.inl rfl))
  | duplicate record => exact h.calm (State.calm_leave p)
  | parked g hg => exact h.wait hi g none fun hg' => absurd hg' hg
  | waits g c hpast => exact h.wait hi g c fun _ => hpast
  | read a c hpast hroom hk =>
    obtain ⟨hkind, htag⟩ := hpast.sound (h.heads p) (by simp [hi])
    have htag := htag (Request.needsRoom_of_kind hk hkind)
    unfold State.dispatchRead
    split
    · exact h.newEntry hroom.2 rfl rfl htag rfl (by simp [PortBlock.leave]) fun q hq => hleft _ _ q hq rfl
    · dsimp only
      split
      · exact h.calm ⟨.refl _, PerPort.settled_mod (.inl rfl)⟩
      · exact h.newEntry hroom.2 rfl rfl htag rfl (by simp [PortBlock.leave]) fun q hq => hleft _ _ q hq rfl
  | write a c hpast hroom hk =>
    obtain ⟨-, htag⟩ := hpast.sound (h.heads p) (by simp [hi])
    unfold State.dispatchWrite
    dsimp only
    split
    · exact h.wait hi _ _ fun _ => hpast
    · next t slot ht =>
      have hports := State.takeWrite_ports ht
      have htracker : t.tracker = s.tracker := by
        obtain ⟨_, rfl⟩ | ⟨_, rfl⟩ := State.takeWrite_cases ht <;> rfl
      by_cases ha : r.ack = true
      · rw [if_pos ha]
        have hroom := (hroom.resolve_left (by simp [Request.posted, ha])).2
        have hindex : t.freeIndex = s.freeIndex := by rw [State.freeIndex, State.freeIndex, htracker]
        refine h.newEntry (p := p) (e := ⟨t.freeIndex, p, r.tag, .ackM slot, .waiting, false, t.stamp⟩) hroom hindex rfl
          (htag (by simp [Request.needsRoom, hk, ha])) ?_ (by simp [PortBlock.leave]) fun q hq => hleft _ _ q hq hports
        rw [State.modPort_tracker, State.addEntry, htracker]
      · rw [if_neg ha]
        refine h.calm ⟨.of_eq (by rw [State.modPort_tracker, htracker]), ?_⟩
        rw [State.modPort_ports, hports]
        exact PerPort.settled_mod (.inl rfl)
  | flush hpast hroom hk =>
    obtain ⟨hkind, htag⟩ := hpast.sound (h.heads p) (by simp [hi])
    have htag := htag (Request.needsRoom_of_kind (by simp [hk]) hkind)
    unfold State.dispatchFlush
    dsimp only
    split
    · exact h.calm (State.calm_modPort (.inl rfl))
    · exact h.newEntry hroom.2 rfl rfl htag rfl (by simp [PortBlock.leave]) fun q hq => hleft _ _ q hq rfl

theorem State.Advancing.tagsUnique (ha : s.Advancing p e) (h : s.TagsUnique) : e.1.TagsUnique := by
  obtain rfl | ⟨r, rest, -, hi, ho⟩ := ha
  · exact h
  · exact ho.tagsUnique hi h

theorem State.CreditOutcome.tagsUnique (hc : s.CreditOutcome e) (h : s.TagsUnique) : e.1.TagsUnique := by
  cases hc with
  | posted hc hr => exact h.calm ⟨.refl _, PerPort.settled_mod (.inl rfl)⟩
  | @tracked p r c a x hc hposted hroom hx =>
    obtain ⟨-, hi, hg, -⟩ := State.creditCandidate_eq_some.mp hc
    obtain ⟨hkind, htag⟩ := (h.heads p).2 r hi (.inr (.inl hg))
    have htag := htag (hkind.resolve_left (by simp [hposted]))
    exact h.newEntry hroom.2 rfl rfl htag rfl (by simp [State.forwardTracked, PortBlock.leave]) fun q hq => by
      simp [State.forwardTracked, hq]

theorem State.TagsUnique.enqueue (h : s.TagsUnique) (p : Port) (r : Request) : (s.modPort p (·.enqueue r)).TagsUnique := by
  refine ⟨h.1, h.2.1, PerPort.all_iff_get.mpr fun q => ?_⟩
  by_cases hq : q = p
  · rw [hq, State.modPort_ports, PerPort.get_mod_same]
    refine ⟨fun hi => by simp [PortBlock.enqueue] at hi, fun r' hr' hw => ?_⟩
    cases hi : (s.ports.get p).ingress with
    | nil => simp [PortBlock.enqueue, (h.heads p).1 hi] at hw
    | cons r₀ rest =>
      simp only [PortBlock.enqueue, hi, List.cons_append, List.head?_cons] at hr'
      cases hr'
      exact (h.heads p).2 r' (by simp [hi]) hw
  · rw [State.modPort_ports, PerPort.get_mod_other _ _ hq]
    exact h.heads q

theorem State.Leaving.tagsUnique (he : s.Leaving e) (h : s.TagsUnique) : e.1.TagsUnique := by
  cases he with
  | nothing => exact h
  | enqueued p r => exact h.enqueue p r
  | discarded p => exact h.calm (State.calm_modPort (.inr ⟨rfl, rfl, id⟩))
  | advanced p _ ha => exact ha.tagsUnique h
  | forwarded _ _ _ hc => exact hc.tagsUnique h
  | lostM => exact h.calm s.loseM_calm
  | lostX => exact h.calm s.loseX_calm

/-! ### The Engine and every command -/

theorem serveWarmReset_tracker : (serveWarmReset p r s).state.tracker.entries = [] := by
  simp [serveWarmReset, State.endEntries]

theorem State.ServiceOutcome.tagsUnique {row : CtrlRow} {v : Served} (hv : s.ServiceOutcome p r row v) (h : s.TagsUnique) :
    v.state.TagsUnique := by
  cases hv with
  | disabled q => exact h.calm (State.calm_modPort (.inl rfl))
  | enabled q => exact h.calm (State.calm_modPort (.inr ⟨rfl, rfl, id⟩))
  | rights q rights _ _ e he => exact he.tagsUnique (h.calm (State.calm_modPort (.inr ⟨rfl, rfl, id⟩)))
  | warmReset =>
    refine h.calm ⟨?_, fun q => .inl ?_⟩
    · rw [serveWarmReset_tracker]
      simpa using Thinned.filter (es := s.tracker.entries) fun _ => false
    · rw [serveWarmReset_ports, PerPort.get_map]
      rfl
  | _ => exact h

theorem Served.reply_calm (v : Served) (p : Port) (tag : BitVec 8) : v.state.Calm (v.reply p tag).1 :=
  State.calm_modPort (PortBlock.Answer.settled (.complete _ _ _ _ _))

theorem State.reset_tagsUnique : State.reset.TagsUnique := by decide

theorem exec_tagsUnique {i : Instr} {t : State} (h : s.TagsUnique) (hx : exec i s = .next t) : t.TagsUnique := by
  cases exec_effect hx with
  | reset => exact State.reset_tagsUnique
  | linkReady p => exact h.calm (State.calm_modPort (.inl rfl))
  | linkLost p _ rs =>
    have hlost : s.Calm ((s.modPort p (·.linkLost)).orphanPort p) :=
      ⟨Thinned.map fun f => by
        split
        · exact ⟨rfl, rfl, rfl, by simp, by simp [TrackerEntry.isLiveFlush]⟩
        · exact .refl f, PerPort.settled_mod (.inl rfl)⟩
    exact h.calm (hlost.trans (Event.record_calm (_, rs)))
  | unserved _ p r st hw =>
    have hsel : s.Calm (s.select p) := ⟨.refl _, PerPort.settled_mod (.inl rfl)⟩
    exact h.calm (hsel.trans ((Served.reply_calm { state := s.select p, status := st } p r.tag).trans (Event.close_calm _)))
  | served row p r v hw _ _ hv =>
    have hsel : s.Calm (s.select p) := ⟨.refl _, PerPort.settled_mod (.inl rfl)⟩
    exact (hv.tagsUnique (h.calm hsel)).calm ((v.reply_calm p r.tag).trans (Event.close_calm _))
  | leaving _ e he => exact (he.tagsUnique h).calm (Event.close_calm e)
  | staying _ e he => exact h.calm (he.calm.trans (Event.record_calm e))

end

/-- Settles O57: what remains of an entry keeps its index, port and tag, and a new one is made behind steps 4 and 5 alone. -/
theorem everyStepKeepsLiveTagsUnique : Obligations.EveryStepKeepsLiveTagsUnique := fun _ _ hs h =>
  step_keeps (P := State.TagsUnique) (fun _ _ hu => hu) (fun _ _ _ hu hx => exec_tagsUnique hu hx) hs h

end Sys2Proof.Machine
end

section
/-! The references between the tracker, the queue and the tag windows (R72, R79, R80, R89, R101, R102, R118, R151): the invariant in
parts, and what keeps each part. -/

namespace Sys2Proof.Machine

/-! ### The parts of the invariant -/

/-- An entry is tied in one of six ways: a memory read held on a queue entry, READY, or ISSUED under its dtag, a request on X ISSUED
under its xtag, an ACK write owed by its queue entry, and a FLUSH whose awaited entries hold writes of its port. -/
inductive State.Tied (s : State) (e : TrackerEntry) : Prop
  | held {a : BitVec 36} {n : Nat} {g : RegionIndex} {k : BitVec 8} {q : PwqEntry} (hw : e.work = .readM a n g k)
    (hs : e.state = .held q.slot) (hq : q ∈ s.pwq.entries) (hline : q.line = lineOf a)
  | ready {a : BitVec 36} {n : Nat} {g : RegionIndex} {k : BitVec 8} (hw : e.work = .readM a n g k) (hs : e.state = .ready)
  | issuedM {a : BitVec 36} {n : Nat} {g : RegionIndex} {k : BitVec 8} {d : Fin 8} {timer : Nat} (hw : e.work = .readM a n g k)
    (hs : e.state = .issued d s.sched.epoch timer) (hd : s.sched.dtags[d] = .read e.index n)
  | issuedX {x : Fin 8} {timer : Nat} (hw : e.isOnX = true) (hs : e.state = .issued x s.ext.epoch timer)
    (hx : s.ext.xtags[x] = .allocated e.index)
  | owed {q : PwqEntry} (hw : e.work = .ackM q.slot) (hs : e.state = .waiting) (hq : q ∈ s.pwq.entries) (hi : e.index ∈ q.owed)
  | flush {awaited : List (Fin 16)} (hw : e.work = .flush awaited) (hs : e.state = .waiting) (hne : awaited ≠ [])
    (hq : ∀ slot ∈ awaited, ∃ q ∈ s.pwq.entries, q.slot = slot ∧ q.contributors.get e.port = true)

theorem State.entryTied_iff {s : State} {e : TrackerEntry} : s.EntryTied e ↔ s.Tied e := by
  constructor
  · intro h
    unfold State.EntryTied at h
    split at h
    · next hw hs =>
      obtain ⟨q, hq, rfl, hline⟩ := h
      exact .held hw hs hq hline
    · next hw hs => exact .ready hw hs
    · next hw hs =>
      obtain ⟨hd, rfl⟩ := h
      exact .issuedM hw hs hd
    · next hw hs =>
      obtain ⟨hx, rfl⟩ := h
      exact .issuedX (by simp [TrackerEntry.isOnX, hw]) hs hx
    · next hw hs =>
      obtain ⟨hx, rfl⟩ := h
      exact .issuedX (by simp [TrackerEntry.isOnX, hw]) hs hx
    · next hw hs =>
      obtain ⟨q, hq, rfl, hi⟩ := h
      exact .owed hw hs hq hi
    · next hw hs => exact .flush hw hs h.1 h.2
    · cases h
  · intro h
    cases h with
    | held hw hs hq hline => simp only [State.EntryTied, hw, hs]; exact ⟨_, hq, rfl, hline⟩
    | ready hw hs => simp only [State.EntryTied, hw, hs]
    | issuedM hw hs hd => simp only [State.EntryTied, hw, hs]; exact ⟨hd, trivial⟩
    | issuedX hw hs hx =>
      cases hk : e.work <;> simp only [TrackerEntry.isOnX, hk, Bool.false_eq_true] at hw
      all_goals simp only [State.EntryTied, hk, hs]; exact ⟨hx, trivial⟩
    | owed hw hs hq hi => simp only [State.EntryTied, hw, hs]; exact ⟨_, hq, rfl, hi⟩
    | flush hw hs hne hq => simp only [State.EntryTied, hw, hs]; exact ⟨hne, hq⟩

theorem TrackerEntry.issuedAs_iff {e : TrackerEntry} {d : Fin 8} : e.IssuedAs d ↔ ∃ ep timer, e.state = .issued d ep timer := by
  unfold TrackerEntry.IssuedAs
  cases e.state <;> simp

/-- The queue entry is ISSUED under this dtag. -/
def PwqEntry.IssuedAs (q : PwqEntry) (d : Fin 8) : Prop := ∃ timer, q.state = .issued d timer

theorem PwqEntry.isIssued_iff {q : PwqEntry} : q.isIssued = true ↔ ∃ d, q.IssuedAs d := by
  unfold PwqEntry.isIssued PwqEntry.IssuedAs
  cases q.state <;> simp

theorem PwqEntry.IssuedAs.not_open {q : PwqEntry} {d : Fin 8} (h : q.IssuedAs d) : q.isOpen = false := by
  obtain ⟨timer, h⟩ := h
  simp [PwqEntry.isOpen, h]

/-- A queue entry is tied to its dtag and to the ACK writes that it owes. -/
structure State.SlotSound (s : State) (q : PwqEntry) : Prop where
  dtag : ∀ d, q.IssuedAs d → s.sched.dtags[d] = .write q.slot
  one : q.owed.length ≤ 1
  none : q.isOpen = true → q.owed = []
  owed : ∀ i ∈ q.owed, ∃ e ∈ s.tracker.entries, e.index = i ∧ e.work = .ackM q.slot

theorem State.slotTied_iff {s : State} {q : PwqEntry} : s.SlotTied q ↔ s.SlotSound q := by
  have hdtag : (match q.state with | .issued d _ => s.sched.dtags[d] = .write q.slot | _ => True)
      ↔ ∀ d, q.IssuedAs d → s.sched.dtags[d] = .write q.slot := by
    unfold PwqEntry.IssuedAs
    cases hs : q.state <;> simp
  exact ⟨fun ⟨h, h1, h0, ho⟩ => ⟨hdtag.mp h, h1, h0, ho⟩, fun ⟨h, h1, h0, ho⟩ => ⟨hdtag.mpr h, h1, h0, ho⟩⟩

/-- An allocated dtag names the read or the queue entry that is ISSUED under it. -/
structure State.DtagSound (s : State) (d : Fin 8) : Prop where
  read : ∀ i n, s.sched.dtags[d] = .read i n →
    ∃ e ∈ s.tracker.entries, e.index = i ∧ e.IssuedAs d ∧ ∃ a g k, e.work = .readM a n g k
  write : ∀ slot, s.sched.dtags[d] = .write slot → ∃ q ∈ s.pwq.entries, q.slot = slot ∧ q.IssuedAs d

theorem TrackerEntry.readLength_iff {e : TrackerEntry} {n : Nat} :
    (match e.work with | .readM _ m _ _ => m = n | _ => False) ↔ ∃ a g k, e.work = .readM a n g k := by
  cases e.work <;> simp

theorem PwqEntry.issuedAs_iff {q : PwqEntry} {d : Fin 8} :
    (match q.state with | .issued c _ => c = d | _ => False) ↔ q.IssuedAs d := by
  unfold PwqEntry.IssuedAs
  cases q.state <;> simp

theorem State.dtagTied_iff {s : State} {d : Fin 8} : s.DtagTied d ↔ s.DtagSound d := by
  unfold State.DtagTied
  constructor
  · intro h
    refine ⟨fun i n hd => ?_, fun slot hd => ?_⟩
    · rw [hd] at h
      obtain ⟨e, he, hi, hs, hw⟩ := h
      exact ⟨e, he, hi, hs, TrackerEntry.readLength_iff.mp hw⟩
    · rw [hd] at h
      obtain ⟨q, hq, hslot, hs⟩ := h
      exact ⟨q, hq, hslot, PwqEntry.issuedAs_iff.mp hs⟩
  · intro h
    split
    · next i n hd =>
      obtain ⟨e, he, hi, hs, hw⟩ := h.read i n hd
      exact ⟨e, he, hi, hs, TrackerEntry.readLength_iff.mpr hw⟩
    · next slot hd =>
      obtain ⟨q, hq, hslot, hs⟩ := h.write slot hd
      exact ⟨q, hq, hslot, PwqEntry.issuedAs_iff.mpr hs⟩
    all_goals trivial

/-- An allocated xtag names the request on X that is ISSUED under it. -/
def State.XtagSound (s : State) (x : Fin 8) : Prop :=
  ∀ i, s.ext.xtags[x] = .allocated i → ∃ e ∈ s.tracker.entries, e.index = i ∧ e.isOnX = true ∧ e.IssuedAs x

theorem State.xtagTied_iff {s : State} {x : Fin 8} : s.XtagTied x ↔ s.XtagSound x := by
  unfold State.XtagTied State.XtagSound
  cases s.ext.xtags[x] <;> simp

/-- The queue, the tracker and the windows answer each other's references. -/
structure State.Linked (s : State) : Prop where
  queue : s.QueueOrdered
  room : s.tracker.entries.length ≤ 24
  indices : s.tracker.entries.Pairwise fun a b => a.index ≠ b.index
  stamps : ∀ e ∈ s.tracker.entries, e.stamp < s.stamp
  tied : ∀ e ∈ s.tracker.entries, s.Tied e
  waits : ∀ e ∈ s.tracker.entries, s.ReadWaits e
  slots : ∀ q ∈ s.pwq.entries, s.SlotSound q
  dtags : ∀ d, s.DtagSound d
  xtags : ∀ x, s.XtagSound x

theorem State.workTied_iff {s : State} : s.WorkTied ↔ s.Linked ∧ s.FlushesApart := by
  constructor
  · rintro ⟨hq, hroom, hidx, he, hs, hd, hx, hf⟩
    exact ⟨⟨hq, hroom, hidx, fun e h => (he e h).1, fun e h => State.entryTied_iff.mp (he e h).2.1, fun e h => (he e h).2.2,
      fun q h => State.slotTied_iff.mp (hs q h), fun d => State.dtagTied_iff.mp (hd d), fun x => State.xtagTied_iff.mp (hx x)⟩, hf⟩
  · rintro ⟨h, hf⟩
    exact ⟨h.queue, h.room, h.indices, fun e he => ⟨h.stamps e he, State.entryTied_iff.mpr (h.tied e he), h.waits e he⟩,
      fun q hq => State.slotTied_iff.mpr (h.slots q hq), fun d => State.dtagTied_iff.mpr (h.dtags d),
      fun x => State.xtagTied_iff.mpr (h.xtags x), hf⟩

/-! ### Each is found by its number -/

section
variable {s t : State}

theorem State.Linked.index_inj (h : s.Linked) {e f : TrackerEntry} (he : e ∈ s.tracker.entries) (hf : f ∈ s.tracker.entries)
    (hi : e.index = f.index) : e = f := by
  exact List.inj_on_of_nodup_map (List.pairwise_map.mpr h.indices) he hf hi

theorem State.Linked.slot_inj (h : s.Linked) {q q' : PwqEntry} (hq : q ∈ s.pwq.entries) (hq' : q' ∈ s.pwq.entries)
    (hs : q.slot = q'.slot) : q = q' := by
  have hslots : s.pwq.entries.Pairwise fun a b => a.slot ≠ b.slot := h.queue.2.1.imp fun hb => hb.1
  exact List.inj_on_of_nodup_map (List.pairwise_map.mpr hslots) hq hq' hs

theorem State.pwqAt_eq_some {slot : Fin 16} {q : PwqEntry} (h : s.pwqAt slot = some q) : q.slot = slot ∧ q ∈ s.pwq.entries := by
  refine ⟨?_, List.mem_of_find?_eq_some h⟩
  simpa using List.find?_some h

/-! ### What keeps each part -/

/-- The queue entry stands for the other: in its slot with its line and age, still owing what it owed, with its contributors, and
ISSUED if it was. -/
structure PwqEntry.Carries (q q' : PwqEntry) : Prop where
  slot : q'.slot = q.slot
  line : q'.line = q.line
  stamp : q'.stamp = q.stamp
  owed : ∀ i ∈ q.owed, i ∈ q'.owed
  contributors : ∀ p, q.contributors.get p = true → q'.contributors.get p = true
  issued : ∀ d, q.IssuedAs d → q'.IssuedAs d

theorem PwqEntry.Carries.refl (q : PwqEntry) : q.Carries q := ⟨rfl, rfl, rfl, fun _ h => h, fun _ h => h, fun _ h => h⟩

/-- The tracker entry refers to this slot. -/
def TrackerEntry.Names (e : TrackerEntry) (slot : Fin 16) : Prop :=
  e.state = .held slot ∨ e.work = .ackM slot ∨ ∃ awaited, e.work = .flush awaited ∧ slot ∈ awaited

/-- An entry stays tied while the queue entries that it names stand and its tag stays its own. -/
theorem State.Tied.transfer {e : TrackerEntry} (h : s.Tied e)
    (hq : ∀ q ∈ s.pwq.entries, e.Names q.slot → ∃ q' ∈ t.pwq.entries, q.Carries q')
    (hm : ∀ d n, e.isReadM = true → e.IssuedAs d → s.sched.dtags[d] = .read e.index n →
      t.sched.dtags[d] = .read e.index n ∧ t.sched.epoch = s.sched.epoch)
    (hx : ∀ x, e.isOnX = true → e.IssuedAs x → s.ext.xtags[x] = .allocated e.index →
      t.ext.xtags[x] = .allocated e.index ∧ t.ext.epoch = s.ext.epoch) : t.Tied e := by
  cases h with
  | @held a n g k q hw hs hmem hline =>
    obtain ⟨q', hmem', hc⟩ := hq q hmem (.inl hs)
    exact .held hw (hc.slot ▸ hs) hmem' (hc.line.trans hline)
  | ready hw hs => exact .ready hw hs
  | @issuedM a n g k d timer hw hs hd =>
    obtain ⟨hd', hep⟩ := hm d n (by simp [TrackerEntry.isReadM, hw]) (TrackerEntry.issuedAs_iff.mpr ⟨_, _, hs⟩) hd
    exact .issuedM hw (hep.symm ▸ hs) hd'
  | @issuedX x timer hw hs hd =>
    obtain ⟨hd', hep⟩ := hx x hw (TrackerEntry.issuedAs_iff.mpr ⟨_, _, hs⟩) hd
    exact .issuedX hw (hep.symm ▸ hs) hd'
  | @owed q hw hs hmem hi =>
    obtain ⟨q', hmem', hc⟩ := hq q hmem (.inr (.inl hw))
    exact .owed (hc.slot ▸ hw) hs hmem' (hc.owed _ hi)
  | @flush awaited hw hs hne hall =>
    refine .flush hw hs hne fun slot hslot => ?_
    obtain ⟨q, hmem, rfl, hcon⟩ := hall slot hslot
    obtain ⟨q', hmem', hc⟩ := hq q hmem (.inr (.inr ⟨awaited, hw, hslot⟩))
    exact ⟨q', hmem', hc.slot, hc.contributors _ hcon⟩

/-- A read goes on waiting for all it must wait for while the queue gains only younger entries. -/
theorem State.ReadWaits.transfer {e : TrackerEntry} (h : s.ReadWaits e) (hs : e.stamp < s.stamp)
    (hq : ∀ q' ∈ t.pwq.entries,
      (∃ q ∈ s.pwq.entries, q'.slot = q.slot ∧ q'.line = q.line ∧ q'.stamp = q.stamp) ∨ s.stamp ≤ q'.stamp)
    (hold : ∀ q ∈ s.pwq.entries, q.stamp < s.stamp) : t.ReadWaits e := by
  have hafter : ∀ q' ∈ t.pwq.entries, e.After q' → ∃ q ∈ s.pwq.entries, e.After q ∧ q'.stamp = q.stamp := by
    intro q' hq' ha
    obtain ⟨q, hmem, -, hline, hst⟩ | hst := hq q' hq'
    · exact ⟨q, hmem, ⟨hline ▸ ha.1, hst ▸ ha.2⟩, hst⟩
    · have := ha.2; omega
  unfold State.ReadWaits at h ⊢
  split
  · next hs' =>
    simp only [hs'] at h
    intro q' hq' ha
    obtain ⟨q, hmem, ha', -⟩ := hafter q' hq' ha
    exact h q hmem ha'
  · next slot hs' =>
    simp only [hs'] at h
    intro q' hq' hslot f' hf' ha
    obtain ⟨f, hf, ha', hst⟩ := hafter f' hf' ha
    obtain ⟨q, hmem, hslot', -, hst'⟩ | hyoung := hq q' hq'
    · rw [hst, hst']
      exact h q hmem (hslot'.symm.trans hslot) f hf ha'
    · have := hold f hf; omega
  all_goals trivial

theorem State.DtagSound.transfer {d : Fin 8} (h : s.DtagSound d) (hd : t.sched.dtags[d] = s.sched.dtags[d])
    (he : ∀ e ∈ s.tracker.entries, e.isReadM = true → e.IssuedAs d →
      ∃ e' ∈ t.tracker.entries, e'.index = e.index ∧ e'.work = e.work ∧ e'.state = e.state)
    (hq : ∀ q ∈ s.pwq.entries, q.IssuedAs d → ∃ q' ∈ t.pwq.entries, q.Carries q') : t.DtagSound d := by
  refine ⟨fun i n hr => ?_, fun slot hw => ?_⟩
  · obtain ⟨e, hmem, rfl, hs, a, g, k, hwork⟩ := h.read i n (hd ▸ hr)
    obtain ⟨e', hmem', hi, hw, hst⟩ := he e hmem (by simp [TrackerEntry.isReadM, hwork]) hs
    refine ⟨e', hmem', hi, ?_, a, g, k, hw.trans hwork⟩
    rw [TrackerEntry.issuedAs_iff] at hs ⊢
    rwa [hst]
  · obtain ⟨q, hmem, rfl, hs⟩ := h.write slot (hd ▸ hw)
    obtain ⟨q', hmem', hc⟩ := hq q hmem hs
    exact ⟨q', hmem', hc.slot, hc.issued d hs⟩

theorem State.XtagSound.transfer {x : Fin 8} (h : s.XtagSound x) (hx : t.ext.xtags[x] = s.ext.xtags[x])
    (he : ∀ e ∈ s.tracker.entries, e.isOnX = true → e.IssuedAs x →
      ∃ e' ∈ t.tracker.entries, e'.index = e.index ∧ e'.work = e.work ∧ e'.state = e.state) : t.XtagSound x := by
  intro i hi
  obtain ⟨e, hmem, rfl, honX, hs⟩ := h i (hx ▸ hi)
  obtain ⟨e', hmem', hindex, hw, hst⟩ := he e hmem honX hs
  refine ⟨e', hmem', hindex, ?_, ?_⟩
  · rw [TrackerEntry.isOnX, hw]
    exact honX
  · rw [TrackerEntry.issuedAs_iff] at hs ⊢
    rwa [hst]

/-- A tag that names no entry. -/
def DtagState.Unowned (x : DtagState) : Prop := (∀ i n, x ≠ .read i n) ∧ ∀ slot, x ≠ .write slot

theorem State.dtagSound_of_unowned {d : Fin 8} (h : s.sched.dtags[d].Unowned) : s.DtagSound d :=
  ⟨fun i n hr => absurd hr (h.1 i n), fun slot hw => absurd hw (h.2 slot)⟩

theorem State.xtagSound_of_unowned {x : Fin 8} (h : ∀ i, s.ext.xtags[x] ≠ .allocated i) : s.XtagSound x :=
  fun i hi => absurd hi (h i)

/-- The invariant speaks of the entries, the tags, the epochs and the stamp alone. -/
theorem State.Linked.congr (h : s.Linked) (hq : t.pwq.entries = s.pwq.entries) (he : t.tracker.entries = s.tracker.entries)
    (hst : t.stamp = s.stamp) (hd : t.sched.dtags = s.sched.dtags) (hep : t.sched.epoch = s.sched.epoch)
    (hx : t.ext.xtags = s.ext.xtags) (hxep : t.ext.epoch = s.ext.epoch) : t.Linked where
  queue := by simpa only [State.QueueOrdered, hq, hst] using h.queue
  room := he ▸ h.room
  indices := he ▸ h.indices
  stamps e hmem := hst ▸ h.stamps e (he ▸ hmem)
  tied e hmem := (h.tied e (he ▸ hmem)).transfer (fun q hmem _ => ⟨q, hq ▸ hmem, .refl q⟩) (fun _ _ _ _ hr => ⟨hd ▸ hr, hep⟩)
    fun _ _ _ hr => ⟨hx ▸ hr, hxep⟩
  waits e hmem := (h.waits e (he ▸ hmem)).transfer (h.stamps e (he ▸ hmem)) (fun q hmem => .inl ⟨q, hq ▸ hmem, rfl, rfl, rfl⟩)
    fun q hmem => (h.queue.2.2 q hmem).1
  slots q hmem := by
    obtain ⟨hdtag, hone, hnone, howed⟩ := h.slots q (hq ▸ hmem)
    exact ⟨fun d hi => hd ▸ hdtag d hi, hone, hnone, he ▸ howed⟩
  dtags d := (h.dtags d).transfer (by rw [hd]) (fun e hmem _ _ => ⟨e, he ▸ hmem, rfl, rfl, rfl⟩) fun q hmem _ => ⟨q, hq ▸ hmem, .refl q⟩
  xtags x := (h.xtags x).transfer (by rw [hx]) fun e hmem _ _ => ⟨e, he ▸ hmem, rfl, rfl, rfl⟩

/-- A queue that gains entries or seals, merges and issues some, at most one new tracker entry, and tags taken or given back that
named nothing. -/
theorem State.Linked.grow (h : s.Linked) (new : Option TrackerEntry)
    (hentries : t.tracker.entries = s.tracker.entries ++ new.toList) (hstamp : s.stamp ≤ t.stamp)
    (hnew : ∀ e ∈ new, s.tracker.entries.length < 24 ∧ e.index = s.freeIndex ∧ e.stamp < t.stamp ∧ t.Tied e ∧ t.ReadWaits e)
    (hqueue : t.QueueOrdered) (hfwd : ∀ q ∈ s.pwq.entries, ∃ q' ∈ t.pwq.entries, q.Carries q')
    (hback : ∀ q' ∈ t.pwq.entries,
      (∃ q ∈ s.pwq.entries, q'.slot = q.slot ∧ q'.line = q.line ∧ q'.stamp = q.stamp) ∨ s.stamp ≤ q'.stamp)
    (hslots : ∀ q' ∈ t.pwq.entries, t.SlotSound q')
    (hm : t.sched.epoch = s.sched.epoch
      ∧ ∀ d, t.sched.dtags[d] = s.sched.dtags[d] ∨ s.sched.dtags[d].Unowned ∧ t.DtagSound d)
    (hx : t.ext.epoch = s.ext.epoch
      ∧ ∀ x, t.ext.xtags[x] = s.ext.xtags[x] ∨ (∀ i, s.ext.xtags[x] ≠ .allocated i) ∧ t.XtagSound x) : t.Linked := by
  have hstays : ∀ e ∈ s.tracker.entries, e ∈ t.tracker.entries := fun e he => hentries ▸ List.mem_append_left _ he
  have hmem : ∀ e ∈ t.tracker.entries, e ∈ s.tracker.entries ∨ e ∈ new := fun e he => by
    rw [hentries, List.mem_append, Option.mem_toList] at he
    exact he
  refine ⟨hqueue, ?_, ?_, fun e he => ?_, fun e he => ?_, fun e he => ?_, hslots, fun d => ?_, fun x => ?_⟩
  · rw [hentries]
    cases new with
    | none => simpa using h.room
    | some e =>
      have := (hnew e rfl).1
      simp
      omega
  · rw [hentries, List.pairwise_append]
    refine ⟨h.indices, ?_, fun a ha b hb => ?_⟩
    · cases new <;> simp
    · obtain ⟨hroom, hindex, -⟩ := hnew b (Option.mem_toList.mp hb)
      exact hindex ▸ State.freeIndex_ne hroom a ha
  · obtain he | he := hmem e he
    · exact lt_of_lt_of_le (h.stamps e he) hstamp
    · exact (hnew e he).2.2.1
  · obtain he | he := hmem e he
    · refine (h.tied e he).transfer (fun q hq _ => hfwd q hq) (fun d n _ _ hd => ⟨?_, hm.1⟩) fun x _ _ hd => ⟨?_, hx.1⟩
      · obtain hsame | ⟨hfree, -⟩ := hm.2 d
        · rw [hsame, hd]
        · exact absurd hd (hfree.1 _ _)
      · obtain hsame | ⟨hfree, -⟩ := hx.2 x
        · rw [hsame, hd]
        · exact absurd hd (hfree _)
    · exact (hnew e he).2.2.2.1
  · obtain he | he := hmem e he
    · exact (h.waits e he).transfer (h.stamps e he) hback fun q hq => (h.queue.2.2 q hq).1
    · exact (hnew e he).2.2.2.2
  · obtain hsame | ⟨-, hsound⟩ := hm.2 d
    · exact (h.dtags d).transfer hsame (fun e he _ _ => ⟨e, hstays e he, rfl, rfl, rfl⟩) fun q hq _ => hfwd q hq
    · exact hsound
  · obtain hsame | ⟨-, hsound⟩ := hx.2 x
    · exact (h.xtags x).transfer hsame fun e he _ _ => ⟨e, hstays e he, rfl, rfl, rfl⟩
    · exact hsound

/-- Entries freed while the queue stays: every ACK write that the queue owes stays, and a tag stays its owner's until that is freed. -/
theorem State.Linked.prune (h : s.Linked) (P : TrackerEntry → Bool) (hentries : t.tracker.entries = s.tracker.entries.filter P)
    (hstamp : t.stamp = s.stamp) (hqueue : t.pwq.entries = s.pwq.entries)
    (howed : ∀ e ∈ s.tracker.entries, ∀ slot, e.work = .ackM slot → P e = true)
    (hm : ∀ d, t.sched.dtags[d] = s.sched.dtags[d]
      ∨ t.sched.dtags[d].Unowned ∧ (∀ slot, s.sched.dtags[d] ≠ .write slot)
        ∧ ∀ e ∈ s.tracker.entries, e.isReadM = true → e.IssuedAs d → P e = false)
    (hmkept : ∀ d, t.sched.dtags[d] = s.sched.dtags[d] → ∀ e ∈ s.tracker.entries, e.isReadM = true → e.IssuedAs d → P e = true)
    (hmep : t.sched.epoch = s.sched.epoch)
    (hx : ∀ x, t.ext.xtags[x] = s.ext.xtags[x] ∧ t.ext.epoch = s.ext.epoch
        ∧ (∀ e ∈ s.tracker.entries, e.isOnX = true → e.IssuedAs x → P e = true)
      ∨ (∀ i, t.ext.xtags[x] ≠ .allocated i) ∧ ∀ e ∈ s.tracker.entries, e.isOnX = true → e.IssuedAs x → P e = false) :
    t.Linked := by
  have hmem : ∀ e ∈ t.tracker.entries, e ∈ s.tracker.entries ∧ P e = true := fun e he => by
    rw [hentries, List.mem_filter] at he
    exact he
  have hstays : ∀ e ∈ s.tracker.entries, P e = true →
      ∃ e' ∈ t.tracker.entries, e'.index = e.index ∧ e'.work = e.work ∧ e'.state = e.state := fun e he hp =>
    ⟨e, by rw [hentries, List.mem_filter]; exact ⟨he, hp⟩, rfl, rfl, rfl⟩
  refine ⟨?_, ?_, ?_, fun e he => ?_, fun e he => ?_, fun e he => ?_, fun q hq => ?_, fun d => ?_, fun x => ?_⟩
  · simpa only [State.QueueOrdered, hqueue, hstamp] using h.queue
  · rw [hentries]
    exact (List.length_filter_le _ _).trans h.room
  · rw [hentries]
    exact h.indices.filter _
  · rw [hstamp]
    exact h.stamps e (hmem e he).1
  · obtain ⟨he, hp⟩ := hmem e he
    refine (h.tied e he).transfer (fun q hq _ => ⟨q, hqueue ▸ hq, .refl q⟩) (fun d n hr hs hd => ⟨?_, hmep⟩) fun x hw hs hd => ?_
    · obtain hsame | ⟨-, -, hgone⟩ := hm d
      · rw [hsame, hd]
      · simp [hgone e he hr hs] at hp
    · obtain ⟨hsame, hep, -⟩ | ⟨-, hgone⟩ := hx x
      · exact ⟨by rw [hsame, hd], hep⟩
      · simp [hgone e he hw hs] at hp
  · obtain ⟨he, -⟩ := hmem e he
    exact (h.waits e he).transfer (h.stamps e he) (fun q hq => .inl ⟨q, hqueue ▸ hq, rfl, rfl, rfl⟩) fun q hq => (h.queue.2.2 q hq).1
  · obtain ⟨hdtag, hone, hnone, howes⟩ := h.slots q (hqueue ▸ hq)
    refine ⟨fun d hi => ?_, hone, hnone, fun i hi => ?_⟩
    · obtain hsame | ⟨-, hw, -⟩ := hm d
      · rw [hsame, hdtag d hi]
      · exact absurd (hdtag d hi) (hw _)
    · obtain ⟨e, he, hindex, hwork⟩ := howes i hi
      exact ⟨e, by rw [hentries, List.mem_filter]; exact ⟨he, howed e he _ hwork⟩, hindex, hwork⟩
  · obtain hsame | ⟨hfree, -⟩ := hm d
    · exact (h.dtags d).transfer hsame (fun e he hr hs => hstays e he (hmkept d hsame e he hr hs)) fun q hq _ =>
        ⟨q, hqueue ▸ hq, .refl q⟩
    · exact State.dtagSound_of_unowned hfree
  · obtain ⟨hsame, -, hkept⟩ | ⟨hfree, -⟩ := hx x
    · exact (h.xtags x).transfer hsame fun e he hw hs => hstays e he (hkept e he hw hs)
    · exact State.xtagSound_of_unowned hfree

end

end Sys2Proof.Machine
end

section
/-! What each operation does to the references between the tracker, the queue and the windows. -/

namespace Sys2Proof.Machine

/-! ### Queue entries that seal, merge and issue -/

section
variable {q : PwqEntry}

@[simp] theorem PwqEntry.seal_isOpen (q : PwqEntry) : q.seal.isOpen = false := by
  obtain ⟨_, -, h⟩ | ⟨ho, h⟩ := q.seal_cases
  · simp [h, PwqEntry.isOpen]
  · rw [h, ho]

theorem PwqEntry.issuedAs_seal {d : Fin 8} : q.seal.IssuedAs d ↔ q.IssuedAs d := by
  unfold PwqEntry.IssuedAs
  obtain ⟨_, hs, h⟩ | ⟨-, h⟩ := q.seal_cases
  · simp [h, hs]
  · rw [h]

@[simp] theorem PwqEntry.seal_isIssued (q : PwqEntry) : q.seal.isIssued = q.isIssued := by
  rw [Bool.eq_iff_iff, PwqEntry.isIssued_iff, PwqEntry.isIssued_iff]
  simp only [PwqEntry.issuedAs_seal]

@[simp] theorem PwqEntry.seal_contributors (q : PwqEntry) : q.seal.contributors = q.contributors := by
  obtain ⟨_, -, h⟩ | ⟨-, h⟩ := q.seal_cases <;> rw [h]

theorem PwqEntry.carries_seal (q : PwqEntry) : q.Carries q.seal :=
  ⟨q.seal_slot, q.seal_line, q.seal_stamp, fun i hi => by rwa [q.seal_owed], fun p hp => by rwa [q.seal_contributors],
    fun d hd => PwqEntry.issuedAs_seal.mpr hd⟩

/-- The same entry, or it sealed. -/
def PwqEntry.SealedOrSame (q q' : PwqEntry) : Prop := q' = q ∨ q' = q.seal

theorem PwqEntry.SealedOrSame.carries {q q' : PwqEntry} (h : q.SealedOrSame q') : q.Carries q' := by
  obtain rfl | rfl := h
  · exact .refl _
  · exact q.carries_seal

theorem PwqEntry.SealedOrSame.bytes {q q' : PwqEntry} (h : q.SealedOrSame q') : q'.bytes = q.bytes := by
  obtain rfl | rfl := h <;> simp

theorem PwqEntry.SealedOrSame.isIssued {q q' : PwqEntry} (h : q.SealedOrSame q') : q'.isIssued = q.isIssued := by
  obtain rfl | rfl := h <;> simp

theorem PwqEntry.SealedOrSame.isOpen {q q' : PwqEntry} (h : q.SealedOrSame q') (ho : q.isOpen = false) : q'.isOpen = false := by
  obtain rfl | rfl := h <;> simp [ho]

theorem PwqEntry.Before.sealedOrSame {a b a' b' : PwqEntry} (h : a.Before b) (ha : a.SealedOrSame a') (hb : b.SealedOrSame b') :
    a'.Before b' := by
  obtain ⟨hslot, hopen, hissued, hboth, hstamp⟩ := h
  refine ⟨?_, ha.isOpen hopen, ?_, ?_, ?_⟩
  · rwa [ha.carries.slot, hb.carries.slot]
  · rwa [ha.isIssued, hb.isIssued]
  · rwa [ha.isIssued, hb.isIssued, ha.carries.line, hb.carries.line]
  · rwa [ha.carries.stamp, hb.carries.stamp]

end

section
variable {s t u : State}

theorem State.SlotSound.sealedOrSame {q q' : PwqEntry} (h : s.SlotSound q) (hq : q.SealedOrSame q')
    (hd : ∀ d : Fin 8, s.sched.dtags[d] = .write q.slot → t.sched.dtags[d] = .write q.slot)
    (he : ∀ e ∈ s.tracker.entries, e ∈ t.tracker.entries) : t.SlotSound q' := by
  obtain ⟨hdtag, hone, hnone, howed⟩ := h
  have ho : q'.owed = q.owed := by obtain rfl | rfl := hq <;> simp
  refine ⟨fun d hi => ?_, ho ▸ hone, fun hopen => ?_, fun i hi => ?_⟩
  · rw [hq.carries.slot]
    refine hd d (hdtag d ?_)
    obtain rfl | rfl := hq
    · exact hi
    · exact PwqEntry.issuedAs_seal.mp hi
  · obtain rfl | rfl := hq
    · exact hnone hopen
    · simp at hopen
  · obtain ⟨e, hmem, hindex, hw⟩ := howed i (ho ▸ hi)
    exact ⟨e, he e hmem, hindex, by rw [hq.carries.slot]; exact hw⟩

/-- Entries of the queue sealed. -/
theorem State.Linked.seal (h : s.Linked) {f : PwqEntry → PwqEntry} (hf : ∀ q : PwqEntry, q.SealedOrSame (f q)) :
    (s.withPwq (s.pwq.entries.map f)).Linked := by
  have hback : ∀ q' ∈ s.pwq.entries.map f, ∃ q ∈ s.pwq.entries, q.SealedOrSame q' := fun q' hq' => by
    obtain ⟨q, hq, rfl⟩ := List.mem_map.mp hq'
    exact ⟨q, hq, hf q⟩
  refine h.grow none (by simp) (Nat.le_refl _) (fun _ he => nomatch he) ?_ (fun q hq => ⟨f q, List.mem_map_of_mem hq, (hf q).carries⟩)
    (fun q' hq' => ?_) (fun q' hq' => ?_) ⟨rfl, fun _ => .inl rfl⟩ ⟨rfl, fun _ => .inl rfl⟩
  · obtain ⟨hlen, hpair, hold⟩ := h.queue
    refine ⟨by simpa [State.withPwq] using hlen, List.pairwise_map.mpr (hpair.imp fun hab => hab.sealedOrSame (hf _) (hf _)), ?_⟩
    intro q' hq'
    obtain ⟨q, hq, hs⟩ := hback q' hq'
    rw [hs.carries.stamp, hs.bytes]
    exact hold q hq
  · obtain ⟨q, hq, hs⟩ := hback q' hq'
    exact .inl ⟨q, hq, hs.carries.slot, hs.carries.line, hs.carries.stamp⟩
  · obtain ⟨q, hq, hs⟩ := hback q' hq'
    exact (h.slots q hq).sealedOrSame hs (fun _ hd => hd) fun _ he => he

theorem State.Linked.sealWhere (h : s.Linked) (sel : PwqEntry → Bool) : (s.sealWhere sel).Linked :=
  h.seal fun q => by
    split
    · exact .inr rfl
    · exact .inl rfl

/-- A queue that stays with a new tracker entry that nothing in it owes. -/
theorem State.Linked.track (h : s.Linked) (e : TrackerEntry) (hentries : t.tracker.entries = s.tracker.entries ++ [e])
    (hroom : s.tracker.entries.length < 24) (hindex : e.index = s.freeIndex) (hold : e.stamp = s.stamp)
    (hstamp : t.stamp = s.stamp + 1) (htied : t.Tied e) (hwaits : t.ReadWaits e) (hqueue : t.pwq.entries = s.pwq.entries)
    (hsched : t.sched = s.sched)
    (hx : t.ext.epoch = s.ext.epoch
      ∧ ∀ x, t.ext.xtags[x] = s.ext.xtags[x] ∨ (∀ i, s.ext.xtags[x] ≠ .allocated i) ∧ t.XtagSound x) : t.Linked := by
  refine h.grow (some e) (by simpa using hentries) (by omega) (fun f hf => ?_) ?_ (fun q hq => ⟨q, hqueue ▸ hq, .refl q⟩)
    (fun q hq => .inl ⟨q, hqueue ▸ hq, rfl, rfl, rfl⟩) (fun q hq => ?_) ⟨by rw [hsched], fun d => .inl (by rw [hsched])⟩ hx
  · obtain rfl := Option.mem_some.mp hf
    exact ⟨hroom, hindex, by omega, htied, hwaits⟩
  · obtain ⟨hlen, hpair, hage⟩ := h.queue
    exact ⟨hqueue ▸ hlen, hqueue ▸ hpair, fun q hq => ⟨by have := (hage q (hqueue ▸ hq)).1; omega, (hage q (hqueue ▸ hq)).2⟩⟩
  · exact (h.slots q (hqueue ▸ hq)).sealedOrSame (.inl rfl) (fun d hd => by rw [hsched, hd]) fun f hf => by
      rw [hentries]; exact List.mem_append_left _ hf

/-! ### Reads (R87 to R89) -/

theorem State.youngest_eq_some_iff {line : BitVec 30} {q : PwqEntry} :
    s.youngest line = some q ↔
      ∃ older younger, s.pwq.entries = older ++ q :: younger ∧ q.line = line ∧ ∀ f ∈ younger, f.line ≠ line := by
  constructor
  · intro h
    obtain ⟨hline, as, bs, he, hold⟩ := List.find?_eq_some_iff_append.mp h
    refine ⟨bs.reverse, as.reverse, ?_, by simpa using hline, fun f hf => by simpa using hold f (List.mem_reverse.mp hf)⟩
    rw [← List.reverse_reverse s.pwq.entries, he]
    simp
  · rintro ⟨older, younger, he, hline, hyoung⟩
    exact State.youngest_eq_some he hline hyoung

/-- The youngest entry of a line is no older than any entry of that line. -/
theorem State.QueueOrdered.le_youngest (h : s.QueueOrdered) {line : BitVec 30} {q f : PwqEntry} (hq : s.youngest line = some q)
    (hf : f ∈ s.pwq.entries) (hline : f.line = line) : f.stamp ≤ q.stamp := by
  obtain ⟨-, hpair, -⟩ := h
  obtain ⟨older, younger, he, -, hyoung⟩ := State.youngest_eq_some_iff.mp hq
  rw [he] at hf hpair
  rw [List.pairwise_append] at hpair
  rw [List.mem_append, List.mem_cons] at hf
  obtain hf | rfl | hf := hf
  · exact Nat.le_of_lt (hpair.2.2 f hf q List.mem_cons_self).2.2.2.2
  · exact Nat.le_refl _
  · exact absurd hline (hyoung f hf)

theorem State.Linked.addReady (h : s.Linked) (hroom : s.tracker.entries.length < 24) (p : Port) (tag : BitVec 8) (a : BitVec 36)
    (n : Nat) (g : RegionIndex) (k : BitVec 8) (hy : s.youngest (lineOf a) = none) :
    (s.addEntry p tag (.readM a n g k) .ready).Linked := by
  refine h.track _ rfl hroom rfl rfl rfl (.ready rfl rfl) ?_ rfl rfl ⟨rfl, fun _ => .inl rfl⟩
  intro q hq hafter
  have hnone : ∀ q ∈ s.pwq.entries, q.line ≠ lineOf a := by simpa [State.youngest] using hy
  exact hnone q hq (Option.some.inj hafter.1).symm

theorem State.Linked.addHeld (h : s.Linked) (hroom : s.tracker.entries.length < 24) (p : Port) (tag : BitVec 8) (a : BitVec 36)
    (n : Nat) (g : RegionIndex) (k : BitVec 8) {q : PwqEntry} (hy : s.youngest (lineOf a) = some q) :
    ((s.sealWhere (·.slot = q.slot)).addEntry p tag (.readM a n g k) (.held q.slot)).Linked := by
  obtain ⟨older, younger, he, hline, -⟩ := State.youngest_eq_some_iff.mp hy
  have hmem : q ∈ s.pwq.entries := by simp [he]
  have hseal : q.seal ∈ (s.sealWhere (·.slot = q.slot)).pwq.entries :=
    List.mem_map.mpr ⟨q, hmem, by simp⟩
  have hback : ∀ q' ∈ (s.sealWhere (·.slot = q.slot)).pwq.entries, ∃ f ∈ s.pwq.entries, f.SealedOrSame q' := fun q' hq' => by
    obtain ⟨f, hf, rfl⟩ := List.mem_map.mp hq'
    refine ⟨f, hf, ?_⟩
    split
    · exact .inr rfl
    · exact .inl rfl
  refine (h.sealWhere (·.slot = q.slot)).track _ rfl hroom rfl rfl rfl ?_ ?_ rfl rfl ⟨rfl, fun _ => .inl rfl⟩
  · exact .held (q := q.seal) rfl (by rw [q.seal_slot]) hseal (by rw [q.seal_line, hline])
  · intro q' hq' hslot f' hf' hafter
    obtain ⟨f, hf, hfs⟩ := hback f' hf'
    obtain ⟨r, hr, hrs⟩ := hback q' hq'
    obtain rfl : r = q := h.slot_inj hr hmem (hrs.carries.slot.symm.trans hslot)
    rw [hfs.carries.stamp, hrs.carries.stamp]
    exact h.queue.le_youngest hy hf (hfs.carries.line.symm.trans (Option.some.inj hafter.1).symm)

/-! ### FLUSHes and requests on X (R67, R152) -/

theorem State.Linked.addFlush (h : s.Linked) (hroom : s.tracker.entries.length < 24) (p : Port) (tag : BitVec 8)
    (hne : (s.pwq.entries.filter (·.contributors.get p)).map (·.slot) ≠ []) :
    ((s.sealWhere (·.contributors.get p)).addEntry p tag
      (.flush ((s.pwq.entries.filter (·.contributors.get p)).map (·.slot))) .waiting).Linked := by
  refine (h.sealWhere (·.contributors.get p)).track _ rfl hroom rfl rfl rfl ?_ trivial rfl rfl ⟨rfl, fun _ => .inl rfl⟩
  refine .flush rfl rfl hne fun slot hslot => ?_
  obtain ⟨q, hq, rfl⟩ := List.mem_map.mp hslot
  obtain ⟨hq, hcon⟩ := List.mem_filter.mp hq
  exact ⟨q.seal, List.mem_map.mpr ⟨q, hq, by simp [hcon]⟩, q.seal_slot, by rw [q.seal_contributors]; exact hcon⟩

theorem State.setXtag_xtags (s : State) (x y : Fin 8) (v : XtagState) :
    (s.setXtag x v).ext.xtags[y] = if y = x then v else s.ext.xtags[y] := by
  simp [State.setXtag, Vector.getElem_set, Fin.ext_iff, eq_comm]

theorem State.setDtag_dtags (s : State) (d c : Fin 8) (v : DtagState) :
    (s.setDtag d v).sched.dtags[c] = if c = d then v else s.sched.dtags[c] := by
  simp [State.setDtag, Vector.getElem_set, Fin.ext_iff, eq_comm]

theorem xWork_isOnX {r : Request} {c : Classification} {a : BitVec 40} (e : TrackerEntry) (h : e.work = xWork r c a) :
    e.isOnX = true := by
  unfold xWork at h
  split at h <;> simp [TrackerEntry.isOnX, h]

theorem State.freeXtag_free {x : Fin 8} (h : s.freeXtag = some x) : s.ext.xtags[x] = .free := by
  simpa using List.find?_some h

theorem State.Linked.forwardTracked (h : s.Linked) (hroom : s.tracker.entries.length < 24) (p : Port) (r : Request)
    (c : Classification) (a : BitVec 40) {x : Fin 8} (hx : s.freeXtag = some x) : (s.forwardTracked p r c a x).Linked := by
  have htags : ∀ y, (s.forwardTracked p r c a x).ext.xtags[y] = if y = x then .allocated s.freeIndex else s.ext.xtags[y] :=
    fun y => State.setXtag_xtags { s with ext := s.ext.forward p (xRequestPacket r a (xTagField x s.ext.epoch) c.privileged) } x y _
  let e : TrackerEntry := ⟨s.freeIndex, p, r.tag, xWork r c a, .issued x s.ext.epoch s.tracker.timeoutX, false, s.stamp⟩
  have honX : e.isOnX = true := xWork_isOnX e rfl
  refine h.track e rfl hroom rfl rfl rfl ?_ trivial rfl rfl ⟨rfl, fun y => ?_⟩
  · exact .issuedX (x := x) honX rfl (by rw [htags, if_pos rfl])
  · rw [htags]
    by_cases hy : y = x
    · subst hy
      refine .inr ⟨fun i => by simp [State.freeXtag_free hx], fun i hi => ?_⟩
      rw [htags, if_pos rfl] at hi
      cases hi
      refine ⟨e, ?_, rfl, honX, rfl⟩
      exact List.mem_append_right _ List.mem_cons_self
    · exact .inl (if_neg hy)

end

end Sys2Proof.Machine
end

section
/-! Writes taken in, commands issued, entries ended and removed: what they do to the references. -/

namespace Sys2Proof.Machine

section
variable {s t u : State}

/-! ### Writes taken in (R65, R73 to R75) -/

@[simp] theorem LineImage.ofWrite_length (offset : Nat) (data : List Byte) : (LineImage.ofWrite offset data).length = 64 := by
  simp [LineImage.ofWrite]

/-- A write is taken in by the OPEN tail of its line, or behind the sealed queue in a free slot. -/
theorem State.takeWrite_outcome {p : Port} {a : BitVec 36} {r : Request} {c : Classification} {owed : Option (Fin 24)}
    {slot : Fin 16} (h : s.takeWrite p a r c owed = some (t, slot)) :
    (∃ older tail bytes, s.pwq.entries = older ++ [tail] ∧ tail.isOpen = true ∧ bytes.length = 64 ∧ slot = tail.slot
        ∧ t = s.withPwq (older ++ [tail.merge p bytes owed]))
      ∨ s.pwq.entries.length < 16 ∧ ∃ bytes, bytes.length = 64 ∧ slot = s.freeSlot
        ∧ t = s.appendWrite p (lineOf a) bytes c owed := by
  unfold State.takeWrite at h
  dsimp only at h
  split at h
  · next tail hlast =>
    split at h
    · next hm =>
      cases h
      obtain ⟨older, he⟩ := List.getLast?_eq_some_iff.mp hlast
      simp only [PwqEntry.takesMerge, Bool.and_eq_true] at hm
      exact .inl ⟨older, tail, _, he, hm.1.1.1, LineImage.ofWrite_length _ _, rfl, by rw [he, List.dropLast_concat]⟩
    · split at h
      · next hlen =>
        cases h
        exact .inr ⟨hlen, _, LineImage.ofWrite_length _ _, rfl, rfl⟩
      · cases h
  · next hlast =>
    cases h
    exact .inr ⟨by simp [List.getLast?_eq_none_iff.mp hlast], _, LineImage.ofWrite_length _ _, rfl, rfl⟩

/-- The tail after a merge: its slot, line and age, the port among its contributors, the write's debt, not ISSUED, and SEALED when it
owes an ACK write (R73, R75). -/
structure PwqEntry.Merged (q : PwqEntry) (owed : Option (Fin 24)) (q' : PwqEntry) : Prop where
  slot : q'.slot = q.slot
  line : q'.line = q.line
  stamp : q'.stamp = q.stamp
  owes : q'.owed = q.owed ++ owed.toList
  contributors : ∀ p, q.contributors.get p = true → q'.contributors.get p = true
  bytes : q'.bytes.length = 64
  issued : q'.isIssued = false
  sealed : q'.isOpen = true → owed = none

theorem PwqEntry.merged_merge {q : PwqEntry} (ho : q.isOpen = true) (hb : q.bytes.length = 64) {bytes : LineImage}
    (hn : bytes.length = 64) (p : Port) (owed : Option (Fin 24)) : q.Merged owed (q.merge p bytes owed) := by
  obtain ⟨timer, hs⟩ : ∃ timer, q.state = .openFor timer := by
    unfold PwqEntry.isOpen at ho
    cases h : q.state <;> simp_all
  have hcon : ∀ u, q.contributors.get u = true → (q.contributors.set p true).get u = true := fun u hu => by
    rw [PerPort.get_set]
    split <;> simp [hu]
  have hlen : (LineImage.merge bytes q.bytes).length = 64 := by simp [LineImage.merge, hb, hn]
  unfold PwqEntry.merge
  dsimp only
  split
  · exact ⟨by simp, by simp, by simp, by simp, fun u hu => by simpa using hcon u hu, by simpa using hlen,
      by rw [PwqEntry.seal_isIssued]; simp [PwqEntry.isIssued, hs], by simp⟩
  · next hnot =>
    refine ⟨rfl, rfl, rfl, rfl, hcon, hlen, by simp [PwqEntry.isIssued, hs], fun _ => ?_⟩
    cases owed <;> simp_all

/-- The queue after a write is taken in: what stood stands, sealed or not, and one entry took the write's debt. -/
structure State.TakenIn (s : State) (owed : Option (Fin 24)) (slot : Fin 16) (t : State) : Prop where
  tracker : t.tracker = s.tracker
  sched : t.sched = s.sched
  ext : t.ext = s.ext
  stamp : s.stamp ≤ t.stamp
  queue : t.QueueOrdered
  carried : ∀ q ∈ s.pwq.entries, ∃ q' ∈ t.pwq.entries, q.Carries q'
  known : ∀ q' ∈ t.pwq.entries,
    (∃ q ∈ s.pwq.entries, q'.slot = q.slot ∧ q'.line = q.line ∧ q'.stamp = q.stamp) ∨ s.stamp ≤ q'.stamp
  taker : ∃ q' ∈ t.pwq.entries, q'.slot = slot ∧ q'.owed = owed.toList
  others : ∀ q' ∈ t.pwq.entries, (∃ q ∈ s.pwq.entries, q.SealedOrSame q')
    ∨ q'.slot = slot ∧ q'.owed = owed.toList ∧ q'.isIssued = false ∧ (q'.isOpen = true → owed = none)

theorem State.Linked.takenIn_merge (h : s.Linked) {older : List PwqEntry} {tail tail' : PwqEntry} {owed : Option (Fin 24)}
    (he : s.pwq.entries = older ++ [tail]) (ho : tail.isOpen = true) (hm : tail.Merged owed tail') :
    s.TakenIn owed tail.slot (s.withPwq (older ++ [tail'])) := by
  have htail : tail ∈ s.pwq.entries := by simp [he]
  have howed : tail.owed = [] := (h.slots tail htail).none ho
  have holder : ∀ q ∈ older, q ∈ s.pwq.entries := fun q hq => by simp [he, hq]
  obtain ⟨hlen, hpair, hage⟩ := h.queue
  refine ⟨rfl, rfl, rfl, Nat.le_refl _, ⟨?_, ?_, ?_⟩, fun q hq => ?_, fun q' hq' => ?_, ⟨tail', by simp, hm.slot, by simp [hm.owes, howed]⟩,
    fun q' hq' => ?_⟩
  · simpa [he] using hlen
  · rw [he, List.pairwise_append] at hpair
    refine List.pairwise_append.mpr ⟨hpair.1, List.pairwise_singleton _ _, fun a ha b hb => ?_⟩
    obtain rfl := List.mem_singleton.mp hb
    obtain ⟨hslot, hopen, -, -, hstamp⟩ := hpair.2.2 a ha tail List.mem_cons_self
    exact ⟨by rwa [hm.slot], hopen, fun hi => by simp [hm.issued] at hi, fun hi => by simp [hm.issued] at hi, by rwa [hm.stamp]⟩
  · intro q' hq'
    rw [State.withPwq, List.mem_append, List.mem_singleton] at hq'
    obtain hq' | rfl := hq'
    · exact hage q' (holder q' hq')
    · exact ⟨by rw [hm.stamp]; exact (hage tail htail).1, hm.bytes⟩
  · rw [he, List.mem_append, List.mem_singleton] at hq
    obtain hq | rfl := hq
    · exact ⟨q, List.mem_append_left _ hq, .refl q⟩
    · refine ⟨tail', by simp, hm.slot, hm.line, hm.stamp, fun i hi => by simp [howed] at hi, hm.contributors, fun d hd => ?_⟩
      simp [hd.not_open] at ho
  · rw [State.withPwq, List.mem_append, List.mem_singleton] at hq'
    obtain hq' | rfl := hq'
    · exact .inl ⟨q', holder q' hq', rfl, rfl, rfl⟩
    · exact .inl ⟨tail, htail, hm.slot, hm.line, hm.stamp⟩
  · rw [State.withPwq, List.mem_append, List.mem_singleton] at hq'
    obtain hq' | rfl := hq'
    · exact .inl ⟨q', holder q' hq', .inl rfl⟩
    · exact .inr ⟨hm.slot, by simp [hm.owes, howed], hm.issued, hm.sealed⟩

theorem State.newPwqEntry_sound (s : State) (p : Port) (line : BitVec 30) (bytes : LineImage) (c : Classification)
    (owed : Option (Fin 24)) :
    (s.newPwqEntry p line bytes c owed).isIssued = false
      ∧ ((s.newPwqEntry p line bytes c owed).isOpen = true → owed = none) := by
  unfold State.newPwqEntry PwqEntry.isIssued PwqEntry.isOpen
  constructor
  · dsimp only
    split_ifs <;> rfl
  · dsimp only
    split_ifs with hc
    · intro _
      cases owed
      · rfl
      · simp at hc
    · intro h
      cases h

theorem State.Linked.takenIn_append (h : s.Linked) (hroom : s.pwq.entries.length < 16) (p : Port) (line : BitVec 30)
    {bytes : LineImage} (hb : bytes.length = 64) (c : Classification) (owed : Option (Fin 24)) :
    s.TakenIn owed s.freeSlot (s.appendWrite p line bytes c owed) := by
  obtain ⟨hissued, hopen⟩ := s.newPwqEntry_sound p line bytes c owed
  obtain ⟨hlen, hpair, hage⟩ := h.queue
  have hmem : ∀ q' ∈ (s.appendWrite p line bytes c owed).pwq.entries,
      (∃ q ∈ s.pwq.entries, q' = q.seal) ∨ q' = s.newPwqEntry p line bytes c owed := fun q' hq' => by
    simpa [State.appendWrite, State.withPwq, eq_comm] using hq'
  refine ⟨rfl, rfl, rfl, Nat.le_succ _, ⟨?_, ?_, fun q' hq' => ?_⟩, fun q hq => ?_, fun q' hq' => ?_, ?_, fun q' hq' => ?_⟩
  · simp [State.appendWrite, State.withPwq]
    omega
  · refine List.pairwise_append.mpr ⟨List.pairwise_map.mpr (hpair.imp fun hab => hab.sealedOrSame (.inr rfl) (.inr rfl)),
      List.pairwise_singleton _ _, fun a ha b hb => ?_⟩
    obtain rfl := List.mem_singleton.mp hb
    obtain ⟨q, hq, rfl⟩ := List.mem_map.mp ha
    exact ⟨by rw [q.seal_slot]; exact State.freeSlot_ne hroom q hq, q.seal_isOpen, fun hi => by simp [hissued] at hi,
      fun hi => by simp [hissued] at hi, by rw [q.seal_stamp]; exact (hage q hq).1⟩
  · obtain ⟨q, hq, rfl⟩ | rfl := hmem q' hq'
    · rw [q.seal_stamp, q.seal_bytes]
      exact ⟨Nat.lt_succ_of_lt (hage q hq).1, (hage q hq).2⟩
    · exact ⟨Nat.lt_succ_self _, hb⟩
  · exact ⟨q.seal, List.mem_append_left _ (List.mem_map_of_mem hq), q.carries_seal⟩
  · obtain ⟨q, hq, rfl⟩ | rfl := hmem q' hq'
    · exact .inl ⟨q, hq, q.seal_slot, q.seal_line, q.seal_stamp⟩
    · exact .inr (Nat.le_refl _)
  · exact ⟨_, List.mem_append_right _ List.mem_cons_self, rfl, rfl⟩
  · obtain ⟨q, hq, rfl⟩ | rfl := hmem q' hq'
    · exact .inl ⟨q, hq, .inr rfl⟩
    · exact .inr ⟨rfl, rfl, hissued, hopen⟩

theorem State.Linked.takenIn (h : s.Linked) {p : Port} {a : BitVec 36} {r : Request} {c : Classification}
    {owed : Option (Fin 24)} {slot : Fin 16} (ht : s.takeWrite p a r c owed = some (t, slot)) : s.TakenIn owed slot t := by
  obtain ⟨older, tail, bytes, he, ho, hb, rfl, rfl⟩ | ⟨hroom, bytes, hb, rfl, rfl⟩ := State.takeWrite_outcome ht
  · have htail : tail ∈ s.pwq.entries := by simp [he]
    exact h.takenIn_merge he ho (PwqEntry.merged_merge ho (h.queue.2.2 tail htail).2 hb p owed)
  · exact h.takenIn_append hroom p _ hb c owed

/-- A write taken in, with the entry of the ACK write that the queue now owes. -/
theorem State.TakenIn.linked {owed : Option (Fin 24)} {slot : Fin 16} (ht : s.TakenIn owed slot t) (h : s.Linked)
    (new : Option TrackerEntry) (howed : owed = new.map (·.index))
    (hnew : ∀ e ∈ new, s.tracker.entries.length < 24 ∧ e.index = s.freeIndex ∧ e.work = .ackM slot ∧ e.state = .waiting
      ∧ e.stamp < u.stamp)
    (hentries : u.tracker.entries = t.tracker.entries ++ new.toList) (hqueue : u.pwq.entries = t.pwq.entries)
    (hstamp : t.stamp ≤ u.stamp) (hsched : u.sched = t.sched) (hext : u.ext = t.ext) : u.Linked := by
  have htags : u.sched = s.sched := hsched.trans ht.sched
  obtain ⟨taker, htaker, htslot, htowed⟩ := ht.taker
  refine h.grow new (by rw [hentries, ht.tracker]) (ht.stamp.trans hstamp) (fun e he => ?_) ?_ (by rw [hqueue]; exact ht.carried)
    (by rw [hqueue]; exact ht.known) (fun q' hq' => ?_) ⟨by rw [htags], fun d => .inl (by rw [htags])⟩
    ⟨by rw [hext, ht.ext], fun x => .inl (by rw [hext, ht.ext])⟩
  · obtain ⟨hroom, hindex, hwork, hstate, hold⟩ := hnew e he
    refine ⟨hroom, hindex, hold, .owed (q := taker) (htslot.symm ▸ hwork) hstate (hqueue ▸ htaker) ?_, ?_⟩
    · rw [htowed, howed, Option.mem_def.mp he]
      simp
    · unfold State.ReadWaits
      rw [hstate]
      trivial
  · obtain ⟨hlen, hpair, hage⟩ := ht.queue
    exact ⟨hqueue ▸ hlen, hqueue ▸ hpair, fun q hq => ⟨lt_of_lt_of_le (hage q (hqueue ▸ hq)).1 hstamp, (hage q (hqueue ▸ hq)).2⟩⟩
  · obtain ⟨q, hq, hs⟩ | ⟨hslot, ho, hissued, hopen⟩ := ht.others q' (hqueue ▸ hq')
    · exact (h.slots q hq).sealedOrSame hs (fun d hd => by rw [htags, hd]) fun f hf => by
        rw [hentries, ht.tracker]; exact List.mem_append_left _ hf
    · refine ⟨fun d hd => ?_, ?_, fun hop => by simp [ho, hopen hop], fun i hi => ?_⟩
      · rw [PwqEntry.isIssued_iff.mpr ⟨d, hd⟩] at hissued
        cases hissued
      · rw [ho]
        cases owed <;> simp
      · simp only [ho, howed, Option.mem_toList, Option.map_eq_some_iff] at hi
        obtain ⟨e, rfl, rfl⟩ := hi
        obtain ⟨-, -, hwork, -⟩ := hnew e rfl
        exact ⟨e, by simp [hentries], rfl, hslot.symm ▸ hwork⟩

/-! ### Commands issued (R80, R99, R119, R142) -/

theorem State.freeDtag_free {d : Fin 8} (h : s.freeDtag = some d) : s.sched.dtags[d] = .free :=
  (State.freeDtag_eq_some.mp h).1

theorem DtagState.unowned_free : DtagState.free.Unowned := ⟨by simp, by simp⟩

theorem DtagState.unowned_stale : DtagState.stale.Unowned := ⟨by simp, by simp⟩

theorem DtagState.unowned_sweep (row : BitVec 20) (timer : Nat) : (DtagState.sweep row timer).Unowned :=
  ⟨by simp, by simp⟩

/-- A dtag that names nothing is given to something that is tied to it. -/
theorem State.setDtag_same_or {d : Fin 8} {v : DtagState} (hfree : s.sched.dtags[d].Unowned)
    (ht : t.sched.dtags = (s.setDtag d v).sched.dtags) (hsound : t.DtagSound d) (c : Fin 8) :
    t.sched.dtags[c] = s.sched.dtags[c] ∨ s.sched.dtags[c].Unowned ∧ t.DtagSound c := by
  by_cases hc : c = d
  · subst hc
    exact .inr ⟨hfree, hsound⟩
  · exact .inl (by rw [ht, State.setDtag_dtags, if_neg hc])

/-- A dtag that names nothing is given back or to a sweep. -/
theorem State.Linked.setDtag (h : s.Linked) {d : Fin 8} {v : DtagState} (hfree : s.sched.dtags[d].Unowned) (hv : v.Unowned) :
    (s.setDtag d v).Linked := by
  have hd : (s.setDtag d v).sched.dtags[d] = v := by rw [State.setDtag_dtags, if_pos rfl]
  have hsame := State.setDtag_same_or hfree rfl (State.dtagSound_of_unowned (s := s.setDtag d v) (by rwa [hd]))
  refine h.grow none (by simp) (Nat.le_refl _) (fun _ he => nomatch he) h.queue (fun q hq => ⟨q, hq, .refl q⟩)
    (fun q hq => .inl ⟨q, hq, rfl, rfl, rfl⟩) (fun q hq => ?_) ⟨rfl, hsame⟩ ⟨rfl, fun _ => .inl rfl⟩
  refine (h.slots q hq).sealedOrSame (.inl rfl) (fun c hc => ?_) fun _ he => he
  obtain hsame | ⟨hu, -⟩ := hsame c
  · rw [hsame, hc]
  · exact absurd hc (hu.2 _)

theorem State.Linked.setXtag (h : s.Linked) {x : Fin 8} {v : XtagState} (hfree : ∀ i, s.ext.xtags[x] ≠ .allocated i)
    (hv : ∀ i, v ≠ .allocated i) : (s.setXtag x v).Linked := by
  refine h.grow none (by simp) (Nat.le_refl _) (fun _ he => nomatch he) h.queue (fun q hq => ⟨q, hq, .refl q⟩)
    (fun q hq => .inl ⟨q, hq, rfl, rfl, rfl⟩)
    (fun q hq => (h.slots q hq).sealedOrSame (.inl rfl) (fun _ hd => hd) fun _ he => he) ⟨rfl, fun _ => .inl rfl⟩ ⟨rfl, fun y => ?_⟩
  by_cases hy : y = x
  · subst hy
    exact .inr ⟨hfree, State.xtagSound_of_unowned fun i => by rw [State.setXtag_xtags, if_pos rfl]; exact hv i⟩
  · exact .inl (by rw [State.setXtag_xtags, if_neg hy])

/-- The queue's candidate ISSUED under a free dtag. -/
theorem State.Linked.issuePwq (h : s.Linked) {d : Fin 8} (hd : s.freeDtag = some d) {q : PwqEntry} (hq : s.pwqCandidate = some q) :
    (s.issue d (.pwq q)).Linked := by
  obtain ⟨⟨older, younger, he, hold⟩, helig⟩ := State.pwqCandidate_eq_some.mp hq
  obtain ⟨hsealed, hline, -⟩ := State.eligible_eq_true.mp helig
  have hmem : q ∈ s.pwq.entries := by simp [he]
  have hfree := State.freeDtag_free hd
  let q' : PwqEntry := { q with state := .issued d s.tracker.timeoutM }
  have hqi : q.isIssued = false := PwqEntry.isIssued_of_sealed hsealed
  have hqi' : q'.isIssued = true := rfl
  have hqueue : (s.issue d (.pwq q)).pwq.entries = older ++ q' :: younger := by
    obtain ⟨-, hpair, -⟩ := h.queue
    rw [he, List.pairwise_append, List.pairwise_cons] at hpair
    obtain ⟨-, ⟨hyounger, -⟩, holder⟩ := hpair
    have hsame {es : List PwqEntry} (hes : ∀ f ∈ es, f.slot ≠ q.slot) :
        es.map (fun f => if f.slot = q.slot then { f with state := PwqState.issued d s.tracker.timeoutM } else f) = es :=
      (List.map_congr_left fun f hf => by simp [hes f hf]).trans (List.map_id es)
    change s.pwq.entries.map _ = _
    rw [he, List.map_append, List.map_cons, hsame fun f hf => (holder f hf q List.mem_cons_self).1,
      hsame fun f hf => (hyounger f hf).1.symm, if_pos rfl]
  have hback : ∀ f ∈ (s.issue d (.pwq q)).pwq.entries, f ∈ s.pwq.entries ∨ f = q' := fun f hf => by
    simp only [hqueue, List.mem_append, List.mem_cons] at hf
    simp only [he, List.mem_append, List.mem_cons]
    tauto
  have hfwd : ∀ f ∈ s.pwq.entries, ∃ f' ∈ (s.issue d (.pwq q)).pwq.entries, f.Carries f' := fun f hf => by
    rw [he, List.mem_append, List.mem_cons] at hf
    rw [hqueue]
    obtain hf | rfl | hf := hf
    · exact ⟨f, by simp [hf], .refl f⟩
    · refine ⟨q', by simp, rfl, rfl, rfl, fun _ hi => hi, fun _ hp => hp, fun c hc => ?_⟩
      rw [PwqEntry.isIssued_iff.mpr ⟨c, hc⟩] at hqi
      cases hqi
    · exact ⟨f, by simp [hf], .refl f⟩
  have htag : (s.issue d (.pwq q)).sched.dtags[d] = .write q.slot :=
    (State.setDtag_dtags _ d d _).trans (if_pos rfl)
  have hsame := State.setDtag_same_or (s := s) (t := s.issue d (.pwq q)) (v := .write q.slot) (by rw [hfree]; exact DtagState.unowned_free) rfl
    ⟨fun i n hr => by simp [htag] at hr, fun slot hw => ⟨q', by simp [hqueue], by simpa [htag] using hw, _, rfl⟩⟩
  refine h.grow none (by exact (List.append_nil _).symm) (Nat.le_refl _) (fun _ he => nomatch he) ⟨?_, ?_, fun f hf => ?_⟩ hfwd (fun f hf => ?_)
    (fun f hf => ?_) ⟨rfl, hsame⟩ ⟨rfl, fun _ => .inl rfl⟩
  · obtain ⟨hlen, -⟩ := h.queue
    simpa [hqueue, he] using hlen
  · obtain ⟨-, hpair, -⟩ := h.queue
    rw [he, List.pairwise_append, List.pairwise_cons] at hpair
    obtain ⟨hpo, ⟨hyounger, hpy⟩, holder⟩ := hpair
    rw [hqueue, List.pairwise_append, List.pairwise_cons]
    refine ⟨hpo, ⟨fun b hb => ?_, hpy⟩, fun a ha b hb => ?_⟩
    · obtain ⟨hslot, -, hissued, -, hstamp⟩ := hyounger b hb
      refine ⟨hslot, rfl, fun _ => rfl, fun ⟨_, hbi, _⟩ => ?_, hstamp⟩
      rw [hissued hbi] at hqi
      cases hqi
    · obtain rfl | hb := List.mem_cons.mp hb
      · obtain ⟨hslot, hopen, -, -, hstamp⟩ := holder a ha q List.mem_cons_self
        exact ⟨hslot, hopen, fun _ => hold a ha, fun ⟨hai, _, hl⟩ => hline a (by simp [he, ha]) hai hl, hstamp⟩
      · exact holder a ha b (List.mem_cons_of_mem _ hb)
  · obtain ⟨-, -, hage⟩ := h.queue
    obtain hf | rfl := hback f hf
    · exact hage f hf
    · exact hage q hmem
  · obtain hf | rfl := hback f hf
    · exact .inl ⟨f, hf, rfl, rfl, rfl⟩
    · exact .inl ⟨q, hmem, rfl, rfl, rfl⟩
  · have hslots : ∀ f ∈ s.pwq.entries, (s.issue d (.pwq q)).SlotSound f := fun f hf =>
      (h.slots f hf).sealedOrSame (.inl rfl) (fun c hc => by
        obtain hsame | ⟨hu, -⟩ := hsame c
        · rw [hsame, hc]
        · exact absurd hc (hu.2 _)) fun _ he => he
    obtain hf | rfl := hback f hf
    · exact hslots f hf
    · obtain ⟨-, hone, -, howed⟩ := hslots q hmem
      refine ⟨fun c hc => ?_, hone, fun ho => Bool.noConfusion (show false = true from ho), howed⟩
      obtain ⟨_, hc⟩ := hc
      cases hc
      exact htag

theorem State.Linked.issueSweep (h : s.Linked) {d : Fin 8} (hd : s.freeDtag = some d) (row : BitVec 20) :
    (s.issue d (.sweep row)).Linked :=
  (h.setDtag (by rw [State.freeDtag_free hd]; exact DtagState.unowned_free) (DtagState.unowned_sweep row s.tracker.timeoutM)).congr
    rfl rfl rfl rfl rfl rfl rfl

end

end Sys2Proof.Machine
end

section
/-! The ends of work: entries freed with their tags, queue entries removed, links lost; and with it that every command keeps the
references answered. -/

namespace Sys2Proof.Machine

section
variable {s t : State}

/-! ### What a linked state says of a tag and a debt -/

theorem State.Linked.dtag_of_issued (h : s.Linked) {e : TrackerEntry} (he : e ∈ s.tracker.entries) (hr : e.isReadM = true)
    {d : Fin 8} (hd : e.IssuedAs d) : ∃ n, s.sched.dtags[d] = .read e.index n := by
  obtain ⟨ep, timer, hs⟩ := TrackerEntry.issuedAs_iff.mp hd
  cases h.tied e he with
  | issuedM hw hs' hd' => cases hs.symm.trans hs'; exact ⟨_, hd'⟩
  | issuedX hw => unfold TrackerEntry.isReadM at hr; unfold TrackerEntry.isOnX at hw; cases hk : e.work <;> simp_all
  | held hw hs' | ready hw hs' | owed hw hs' | flush hw hs' => cases hs.symm.trans hs'

theorem State.Linked.xtag_of_issued (h : s.Linked) {e : TrackerEntry} (he : e ∈ s.tracker.entries) (hr : e.isOnX = true)
    {x : Fin 8} (hx : e.IssuedAs x) : s.ext.xtags[x] = .allocated e.index := by
  obtain ⟨ep, timer, hs⟩ := TrackerEntry.issuedAs_iff.mp hx
  cases h.tied e he with
  | issuedX hw hs' hx' => cases hs.symm.trans hs'; exact hx'
  | issuedM hw => simp [TrackerEntry.isOnX, hw] at hr
  | held hw hs' | ready hw hs' | owed hw hs' | flush hw hs' => cases hs.symm.trans hs'

/-- The entry that a queue entry owes is the ACK write that waits for it (R75, R101). -/
theorem State.Linked.mem_owed_iff (h : s.Linked) {q : PwqEntry} (hq : q ∈ s.pwq.entries) {e : TrackerEntry}
    (he : e ∈ s.tracker.entries) : e.index ∈ q.owed ↔ e.work = .ackM q.slot := by
  constructor
  · intro hi
    obtain ⟨f, hf, hindex, hw⟩ := (h.slots q hq).owed _ hi
    rw [← h.index_inj hf he hindex, hw]
  · intro hw
    cases h.tied e he with
    | owed hw' _ hq' hi =>
      cases hw.symm.trans hw' |> TrackWork.ackM.inj |> h.slot_inj hq hq'
      exact hi
    | held hw' | ready hw' | issuedM hw' | flush hw' => cases hw.symm.trans hw'
    | issuedX hx => simp [TrackerEntry.isOnX, hw] at hx

theorem State.Linked.owed_nodup (h : s.Linked) {q : PwqEntry} (hq : q ∈ s.pwq.entries) : q.owed.Nodup := by
  have hone := (h.slots q hq).one
  match hw : q.owed with
  | [] => exact List.nodup_nil
  | [i] => exact List.nodup_singleton i
  | i :: j :: rest => simp [hw] at hone

theorem State.Linked.flatMap_owed_nodup (h : s.Linked) : (s.pwq.entries.flatMap (·.owed)).Nodup := by
  have hpair : s.pwq.entries.Pairwise fun a b => a.slot ≠ b.slot := h.queue.2.1.imp fun hb => hb.1
  refine List.nodup_flatMap.mpr ⟨fun q hq => h.owed_nodup hq, hpair.imp_of_mem fun {a b} ha hb hslot i hia hib => hslot ?_⟩
  obtain ⟨e, he, hi, hw⟩ := (h.slots a ha).owed i hia
  obtain ⟨f, hf, hj, hw'⟩ := (h.slots b hb).owed i hib
  rw [h.index_inj he hf (hi.trans hj.symm), hw'] at hw
  exact (TrackWork.ackM.inj hw).symm

/-! ### A memory read ISSUED (R98, R99) -/

theorem State.Linked.issuePort (h : s.Linked) {d : Fin 8} (hd : s.freeDtag = some d) {p : Port} {e : TrackerEntry}
    (he : s.portCandidate p = some e) : (s.issue d (.port e)).Linked := by
  obtain ⟨older, younger, hentries, -, hread, hready, -⟩ := State.portCandidate_eq_some.mp he
  have hmem : e ∈ s.tracker.entries := by simp [hentries]
  obtain ⟨a, n, g, k, hw⟩ : ∃ a n g k, e.work = .readM a n g k := by
    unfold TrackerEntry.isReadM at hread
    cases hk : e.work <;> simp_all
  let st : TrackState := .issued d s.sched.epoch s.tracker.timeoutM
  have ht : s.issue d (.port e)
      = ((s.setEntryState e.index st).setDtag d (.read e.index n)).sendM (memReadPacket d s.sched.epoch a n) := by
    simp only [State.issue, hw, st]
  have hfree := State.freeDtag_free hd
  let e' : TrackerEntry := { e with state := st }
  have htags : ∀ c : Fin 8, (s.issue d (.port e)).sched.dtags[c] = if c = d then .read e.index n else s.sched.dtags[c] := fun c => by
    rw [ht]; exact State.setDtag_dtags (s.setEntryState e.index st) d c _
  have hback : ∀ f' ∈ (s.issue d (.port e)).tracker.entries, f' ∈ s.tracker.entries ∧ f' ≠ e ∨ f' = e' := fun f' hf' => by
    rw [ht] at hf'
    obtain ⟨f, hf, rfl⟩ := List.mem_map.mp hf'
    by_cases hi : f.index = e.index
    · rw [if_pos hi, h.index_inj hf hmem hi]
      exact .inr rfl
    · rw [if_neg hi]
      exact .inl ⟨hf, fun hfe => hi (hfe ▸ rfl)⟩
  have hstays : ∀ f ∈ s.tracker.entries, ∃ f' ∈ (s.issue d (.port e)).tracker.entries, f'.index = f.index ∧ f'.work = f.work
      ∧ (f ≠ e → f'.state = f.state) := fun f hf => by
    refine ⟨if f.index = e.index then { f with state := st } else f, by rw [ht]; exact List.mem_map.mpr ⟨f, hf, rfl⟩, ?_⟩
    split
    · next hi => exact ⟨rfl, rfl, fun hne => absurd (h.index_inj hf hmem hi) hne⟩
    · exact ⟨rfl, rfl, fun _ => rfl⟩
  have hmem' : e' ∈ (s.issue d (.port e)).tracker.entries := by
    rw [ht]; exact List.mem_map.mpr ⟨e, hmem, if_pos rfl⟩
  have hnot : ∀ c, ¬e.IssuedAs c := fun c hc => by
    obtain ⟨_, _, hs⟩ := TrackerEntry.issuedAs_iff.mp hc
    cases hready.symm.trans hs
  have hne : ∀ c i n, s.sched.dtags[c] = .read i n → c ≠ d := fun c i n hc hcd => by
    subst hcd
    rw [hfree] at hc
    cases hc
  have hpwq : (s.issue d (.port e)).pwq = s.pwq := by rw [ht]; rfl
  have hext : (s.issue d (.port e)).ext = s.ext := by rw [ht]; rfl
  have hep : (s.issue d (.port e)).sched.epoch = s.sched.epoch := by rw [ht]; rfl
  have hstamp : (s.issue d (.port e)).stamp = s.stamp := by rw [ht]; rfl
  refine ⟨?_, ?_, ?_, fun f hf => ?_, fun f hf => ?_, fun f hf => ?_, fun q hq => ?_, fun c => ?_, fun x => ?_⟩
  · simpa only [State.QueueOrdered, hpwq, hstamp] using h.queue
  · rw [ht]
    simpa [State.setEntryState] using h.room
  · have hidx : ∀ f : TrackerEntry, (if f.index = e.index then { f with state := st } else f).index = f.index := fun f => by
      split <;> rfl
    rw [ht]
    exact List.pairwise_map.mpr (h.indices.imp fun hab => by rwa [hidx, hidx])
  · rw [hstamp]
    obtain ⟨hf, -⟩ | rfl := hback f hf
    · exact h.stamps f hf
    · exact h.stamps e hmem
  · obtain ⟨hf, -⟩ | rfl := hback f hf
    · refine (h.tied f hf).transfer (fun q hq _ => ⟨q, hpwq ▸ hq, .refl q⟩) (fun c n _ _ hc => ⟨?_, hep⟩) fun x _ _ hx =>
        ⟨by rw [hext, hx], by rw [hext]⟩
      rw [htags, if_neg (hne c _ _ hc), hc]
    · exact .issuedM (n := n) (timer := s.tracker.timeoutM) hw (by rw [hep]) (by rw [htags, if_pos rfl])
  · obtain ⟨hf, -⟩ | rfl := hback f hf
    · exact (h.waits f hf).transfer (h.stamps f hf) (fun q hq => .inl ⟨q, hpwq ▸ hq, rfl, rfl, rfl⟩) fun q hq => (h.queue.2.2 q hq).1
    · trivial
  · obtain ⟨hdtag, hone, hnone, howed⟩ := h.slots q (hpwq ▸ hq)
    refine ⟨fun c hc => ?_, hone, hnone, fun i hi => ?_⟩
    · rw [htags, if_neg (fun hcd => by have := hdtag c hc; rw [hcd, hfree] at this; cases this), hdtag c hc]
    · obtain ⟨f, hf, hindex, hwork⟩ := howed i hi
      obtain ⟨f', hf', hi', hw', -⟩ := hstays f hf
      exact ⟨f', hf', hi'.trans hindex, hw'.trans hwork⟩
  · by_cases hc : c = d
    · subst hc
      have hct := (htags c).trans (if_pos rfl)
      refine ⟨fun i m hr => ?_, fun slot hw => by rw [hct] at hw; cases hw⟩
      cases hct.symm.trans hr
      exact ⟨e', hmem', rfl, rfl, a, g, k, hw⟩
    · refine (h.dtags c).transfer ((htags c).trans (if_neg hc)) (fun f hf _ hs => ?_) fun q hq _ => ⟨q, hpwq ▸ hq, .refl q⟩
      obtain ⟨f', hf', hi', hw', hst⟩ := hstays f hf
      exact ⟨f', hf', hi', hw', hst fun hfe => hnot c (hfe ▸ hs)⟩
  · refine (h.xtags x).transfer (by rw [hext]) fun f hf _ hs => ?_
    obtain ⟨f', hf', hi', hw', hst⟩ := hstays f hf
    exact ⟨f', hf', hi', hw', hst fun hfe => hnot x (hfe ▸ hs)⟩

/-! ### Entries that end with their tag (R104 to R107) -/

/-- A memory read ends and its dtag names nothing any more. -/
theorem State.Linked.endRead (h : s.Linked) {e : TrackerEntry} (he : e ∈ s.tracker.entries) (hr : e.isReadM = true) {d : Fin 8}
    (hd : e.IssuedAs d) {v : DtagState} (hv : v.Unowned) (st : Status) (data : List Byte) :
    ((s.setDtag d v).endEntry e st data).Linked := by
  obtain ⟨n, htag⟩ := h.dtag_of_issued he hr hd
  have htags : ∀ c : Fin 8, ((s.setDtag d v).endEntry e st data).sched.dtags[c] = if c = d then v else s.sched.dtags[c] := fun c =>
    State.setDtag_dtags s d c v
  have hother : ∀ f ∈ s.tracker.entries, f.work ≠ e.work → decide (f.index ≠ e.index) = true := fun f hf hw => by
    simpa using fun hi => hw (by rw [h.index_inj hf he hi])
  have hne : ∀ f : TrackerEntry, f.isReadM = false → f.work ≠ e.work := fun f hf hw => by
    rw [TrackerEntry.isReadM, hw] at hf
    exact absurd hr (by rw [TrackerEntry.isReadM, hf]; simp)
  refine h.prune (fun f => decide (f.index ≠ e.index)) rfl rfl rfl (fun f hf slot hw => ?_) (fun c => ?_) (fun c hc f hf hfr hfc => ?_)
    rfl fun x => .inl ⟨rfl, rfl, fun f hf hfx _ => ?_⟩
  · exact hother f hf (hne f (by simp [TrackerEntry.isReadM, hw]))
  · by_cases hc : c = d
    · subst hc
      refine .inr ⟨by rw [htags, if_pos rfl]; exact hv, by simp [htag], fun f hf hfr hfc => ?_⟩
      obtain ⟨m, hm⟩ := h.dtag_of_issued hf hfr hfc
      rw [htag, DtagState.read.injEq] at hm
      simpa using hm.1.symm
    · exact .inl (by rw [htags, if_neg hc])
  · have hcd : c ≠ d := fun hcd => by
      subst hcd
      rw [htags, if_pos rfl, htag] at hc
      exact hv.1 _ _ hc
    simp only [decide_eq_true_eq]
    intro hi
    rw [h.index_inj hf he hi] at hfc
    obtain ⟨_, _, hs⟩ := TrackerEntry.issuedAs_iff.mp hfc
    obtain ⟨_, _, hs'⟩ := TrackerEntry.issuedAs_iff.mp hd
    cases hs.symm.trans hs'
    exact hcd rfl
  · exact hother f hf (hne f (by
      unfold TrackerEntry.isOnX at hfx
      unfold TrackerEntry.isReadM
      cases hk : f.work <;> simp_all))

/-- A request on X ends and its xtag names nothing any more. -/
theorem State.Linked.endAccess (h : s.Linked) {e : TrackerEntry} (he : e ∈ s.tracker.entries) (hr : e.isOnX = true) {x : Fin 8}
    (hx : e.IssuedAs x) {v : XtagState} (hv : ∀ i, v ≠ .allocated i) (st : Status) (data : List Byte) :
    ((s.setXtag x v).endEntry e st data).Linked := by
  have htag := h.xtag_of_issued he hr hx
  have htags : ∀ y : Fin 8, ((s.setXtag x v).endEntry e st data).ext.xtags[y] = if y = x then v else s.ext.xtags[y] := fun y =>
    State.setXtag_xtags s x y v
  have hother : ∀ f ∈ s.tracker.entries, f.isOnX = false → decide (f.index ≠ e.index) = true := fun f hf hw => by
    simp only [decide_eq_true_eq]
    intro hi
    rw [h.index_inj hf he hi, hr] at hw
    cases hw
  have hread : ∀ f : TrackerEntry, f.isReadM = true → f.isOnX = false := fun f hf => by
    unfold TrackerEntry.isReadM at hf
    unfold TrackerEntry.isOnX
    cases hk : f.work <;> simp_all
  refine h.prune (fun f => decide (f.index ≠ e.index)) rfl rfl rfl (fun f hf slot hw => hother f hf (by simp [TrackerEntry.isOnX, hw]))
    (fun c => .inl rfl) (fun c _ f hf hfr _ => hother f hf (hread f hfr)) rfl fun y => ?_
  by_cases hy : y = x
  · subst hy
    refine .inr ⟨fun i => by rw [htags, if_pos rfl]; exact hv i, fun f hf hfx hfy => ?_⟩
    have := h.xtag_of_issued hf hfx hfy
    rw [htag, XtagState.allocated.injEq] at this
    simpa using this.symm
  · refine .inl ⟨by rw [htags, if_neg hy], rfl, fun f hf hfx hfy => ?_⟩
    simp only [decide_eq_true_eq]
    intro hi
    rw [h.index_inj hf he hi] at hfy
    obtain ⟨_, _, hs⟩ := TrackerEntry.issuedAs_iff.mp hfy
    obtain ⟨_, _, hs'⟩ := TrackerEntry.issuedAs_iff.mp hx
    cases hs.symm.trans hs'
    exact hy rfl

/-! ### Queue entries removed (R82) -/

/-- What becomes of an entry at a removal, by what ties it. -/
theorem TrackerEntry.afterRemoval_of_other {slot : Fin 16} {e : TrackerEntry} (hs : e.state ≠ .held slot) (hw : e.work ≠ .ackM slot)
    (hf : ∀ awaited, e.work ≠ .flush awaited) : e.afterRemoval slot = some e := by
  unfold TrackerEntry.afterRemoval
  split
  · next owed h => rw [if_neg fun ho : owed = slot => hw (by rw [h, ho])]
  · next awaited h => exact absurd h (hf awaited)
  all_goals rw [if_neg hs]

theorem TrackerEntry.afterRemoval_held {slot : Fin 16} {e : TrackerEntry} (hs : e.state = .held slot) (hr : e.isReadM = true) :
    e.afterRemoval slot = some { e with state := .ready } := by
  unfold TrackerEntry.afterRemoval
  unfold TrackerEntry.isReadM at hr
  cases hw : e.work <;> simp_all

theorem TrackerEntry.afterRemoval_flush {slot : Fin 16} {e : TrackerEntry} {awaited : List (Fin 16)} (hw : e.work = .flush awaited) :
    e.afterRemoval slot
      = if awaited.all (· = slot) then none else some { e with work := .flush (awaited.filter (· ≠ slot)) } := by
  simp only [TrackerEntry.afterRemoval, hw]

theorem TrackerEntry.afterRemoval_owed {slot : Fin 16} {e : TrackerEntry} (hw : e.work = .ackM slot) : e.afterRemoval slot = none := by
  simp only [TrackerEntry.afterRemoval, hw, if_true]

/-- The tracker after a removal: each entry by itself (R82). -/
theorem State.Linked.removePwq_tracker (h : s.Linked) {q : PwqEntry} (hq : q ∈ s.pwq.entries) {u : State} (hu : u.tracker = s.tracker)
    (st : Status) (failed : Option RecordKind) :
    (u.removePwq q st failed).1.tracker = { s.tracker with entries := s.tracker.entries.filterMap fun e => e.afterRemoval q.slot } := by
  have hentries : (u.removePwq q st failed).1.tracker = { s.tracker with
      entries := ((s.tracker.entries.filter fun e => decide (e.index ∉ q.owed)).filterMap fun e => e.afterGone (· = q.slot)).map
        fun e => if e.state = .held q.slot then { e with state := .ready } else e } := by
    unfold State.removePwq
    dsimp only [State.releaseHeld, State.shrinkFlushes]
    rw [shrinkFlushes_eq, answerOwed_eq _ _ _ (h.owed_nodup hq)]
    cases failed <;> simp [hu]
  rw [hentries, List.filterMap_filter, List.map_filterMap]
  refine congrArg (fun es => ({ s.tracker with entries := es } : Tracker)) (List.filterMap_congr fun e he => ?_)
  have howed := h.mem_owed_iff hq he
  cases h.tied e he with
  | @held a n g k q' hw hs hq' hline =>
    have hgone : e.afterGone (· = q.slot) = some e := by simp only [TrackerEntry.afterGone, hw]
    by_cases hslot : q'.slot = q.slot
    · rw [TrackerEntry.afterRemoval_held (hs.trans (by rw [hslot])) (by simp [TrackerEntry.isReadM, hw])]
      simp [howed, hw, hgone, hs, hslot]
    · rw [TrackerEntry.afterRemoval_of_other (by simp [hs, hslot]) (by simp [hw]) (by simp [hw])]
      simp [howed, hw, hgone, hs, hslot]
  | ready hw hs | issuedM hw hs =>
    have hgone : e.afterGone (· = q.slot) = some e := by simp only [TrackerEntry.afterGone, hw]
    rw [TrackerEntry.afterRemoval_of_other (by simp [hs]) (by simp [hw]) (by simp [hw])]
    simp [howed, hw, hgone, hs]
  | issuedX hw hs =>
    have hack : e.work ≠ .ackM q.slot := fun hk => by simp [TrackerEntry.isOnX, hk] at hw
    have hflush : ∀ awaited, e.work ≠ .flush awaited := fun awaited hk => by simp [TrackerEntry.isOnX, hk] at hw
    have hgone : e.afterGone (· = q.slot) = some e := by
      unfold TrackerEntry.afterGone
      split
      · next awaited hk => exact absurd hk (hflush awaited)
      · rfl
    rw [TrackerEntry.afterRemoval_of_other (by simp [hs]) hack hflush]
    simp [howed, hack, hgone, hs]
  | @owed q' hw hs hq' hi =>
    by_cases hslot : q'.slot = q.slot
    · rw [TrackerEntry.afterRemoval_owed (hw.trans (by rw [hslot]))]
      simp [howed, hw, hslot]
    · have hgone : e.afterGone (· = q.slot) = some e := by simp only [TrackerEntry.afterGone, hw]
      rw [TrackerEntry.afterRemoval_of_other (by simp [hs]) (by simp [hw, hslot]) (by simp [hw])]
      simp [howed, hw, hgone, hs, hslot]
  | @flush awaited hw hs hne hall =>
    rw [TrackerEntry.afterRemoval_flush hw]
    have hiff : (awaited.filter fun slot => !decide (slot = q.slot)).isEmpty = awaited.all (· = q.slot) := by
      rw [Bool.eq_iff_iff]
      simp
    have hgone : e.afterGone (· = q.slot)
        = if awaited.all (· = q.slot) then none else some { e with work := .flush (awaited.filter (· ≠ q.slot)) } := by
      simp only [TrackerEntry.afterGone, hw, hiff, decide_not]
    rw [if_pos (by simp [howed, hw]), hgone]
    split
    · rfl
    · simp [hs]

/-- A queue entry gone from the queue, its dtag left naming nothing, and the tracker entries each as the removal leaves it. -/
structure State.Removes (s : State) (q : PwqEntry) (d : Fin 8) (v : DtagState) (t : State) : Prop where
  queue : t.pwq.entries = s.pwq.entries.filter (·.slot ≠ q.slot)
  entries : t.tracker.entries = s.tracker.entries.filterMap fun e => e.afterRemoval q.slot
  stamp : t.stamp = s.stamp
  dtags : t.sched.dtags = (s.setDtag d v).sched.dtags
  epoch : t.sched.epoch = s.sched.epoch
  ext : t.ext = s.ext

section
variable {q : PwqEntry} {d : Fin 8} {v : DtagState} {e e' : TrackerEntry}

theorem State.Removes.dtag (ht : s.Removes q d v t) (c : Fin 8) : t.sched.dtags[c] = if c = d then v else s.sched.dtags[c] := by
  simp only [ht.dtags, State.setDtag_dtags]

theorem State.Removes.mem_queue (ht : s.Removes q d v t) (f : PwqEntry) :
    f ∈ t.pwq.entries ↔ f ∈ s.pwq.entries ∧ f.slot ≠ q.slot := by
  rw [ht.queue, List.mem_filter, decide_eq_true_iff]

theorem State.Removes.stays (ht : s.Removes q d v t) (he : e ∈ s.tracker.entries) (hs : e.state ≠ .held q.slot)
    (hw : e.work ≠ .ackM q.slot) (hf : ∀ awaited, e.work ≠ .flush awaited) : e ∈ t.tracker.entries := by
  rw [ht.entries]
  exact List.mem_filterMap.mpr ⟨e, he, TrackerEntry.afterRemoval_of_other hs hw hf⟩

/-- An ISSUED entry is none that a removal touches. -/
theorem State.Removes.issued_stays (ht : s.Removes q d v t) (h : s.Linked) (he : e ∈ s.tracker.entries) {c : Fin 8}
    (hs : e.IssuedAs c) : e ∈ t.tracker.entries := by
  obtain ⟨_, _, hst⟩ := TrackerEntry.issuedAs_iff.mp hs
  cases h.tied e he with
  | issuedM hw hs' => exact ht.stays he (by simp [hs']) (by simp [hw]) (by simp [hw])
  | issuedX hw hs' =>
    exact ht.stays he (by simp [hs']) (fun hk => by simp [TrackerEntry.isOnX, hk] at hw) fun awaited hk => by
      simp [TrackerEntry.isOnX, hk] at hw
  | held _ hs' | ready _ hs' | owed _ hs' | flush _ hs' => cases hst.symm.trans hs'

theorem TrackerEntry.afterRemoval_keeps {slot : Fin 16} (he : e.afterRemoval slot = some e') :
    e'.index = e.index ∧ e'.stamp = e.stamp := by
  unfold TrackerEntry.afterRemoval at he
  split at he
  · split at he <;> cases he
    exact ⟨rfl, rfl⟩
  · split at he <;> cases he
    exact ⟨rfl, rfl⟩
  all_goals
    cases he
    split <;> exact ⟨rfl, rfl⟩

/-- What a removal leaves of an entry is tied to what the removal leaves. -/
theorem State.Linked.tied_afterRemoval (h : s.Linked) (ht : s.Removes q d v t) (htag : s.sched.dtags[d] = .write q.slot)
    (he : e ∈ s.tracker.entries) (hr : e.afterRemoval q.slot = some e') : t.Tied e' := by
  cases h.tied e he with
  | @held a n g k q' hw hs hq' hline =>
    by_cases hslot : q'.slot = q.slot
    · rw [TrackerEntry.afterRemoval_held (hs.trans (by rw [hslot])) (by simp [TrackerEntry.isReadM, hw])] at hr
      cases hr
      exact .ready hw rfl
    · rw [TrackerEntry.afterRemoval_of_other (by simp [hs, hslot]) (by simp [hw]) (by simp [hw])] at hr
      cases hr
      exact .held hw hs ((ht.mem_queue q').mpr ⟨hq', hslot⟩) hline
  | ready hw hs =>
    rw [TrackerEntry.afterRemoval_of_other (by simp [hs]) (by simp [hw]) (by simp [hw])] at hr
    cases hr
    exact .ready hw hs
  | @issuedM a n g k c timer hw hs hdt =>
    rw [TrackerEntry.afterRemoval_of_other (by simp [hs]) (by simp [hw]) (by simp [hw])] at hr
    cases hr
    have hcd : c ≠ d := fun hcd => by subst hcd; rw [htag] at hdt; cases hdt
    exact .issuedM hw (ht.epoch.symm ▸ hs) (by rw [ht.dtag, if_neg hcd, hdt])
  | issuedX hw hs hx =>
    rw [TrackerEntry.afterRemoval_of_other (by simp [hs]) (fun hk => by simp [TrackerEntry.isOnX, hk] at hw) fun awaited hk => by
      simp [TrackerEntry.isOnX, hk] at hw] at hr
    cases hr
    exact .issuedX hw (ht.ext.symm ▸ hs) (ht.ext.symm ▸ hx)
  | @owed q' hw hs hq' hi =>
    by_cases hslot : q'.slot = q.slot
    · rw [TrackerEntry.afterRemoval_owed (hw.trans (by rw [hslot]))] at hr
      cases hr
    · rw [TrackerEntry.afterRemoval_of_other (by simp [hs]) (by simp [hw, hslot]) (by simp [hw])] at hr
      cases hr
      exact .owed hw hs ((ht.mem_queue q').mpr ⟨hq', hslot⟩) hi
  | @flush awaited hw hs hne hall =>
    rw [TrackerEntry.afterRemoval_flush hw] at hr
    split at hr
    · cases hr
    · next hsome =>
      cases hr
      refine .flush rfl hs (fun hnil => hsome ?_) fun slot hslot => ?_
      · simpa using hnil
      · rw [List.mem_filter] at hslot
        obtain ⟨f, hf, rfl, hcon⟩ := hall slot hslot.1
        exact ⟨f, (ht.mem_queue f).mpr ⟨hf, by simpa using hslot.2⟩, rfl, hcon⟩

/-- Nothing of an ISSUED entry's line stands before it in the queue: ISSUED entries are the oldest, and no two have one line (R79,
R80). -/
theorem State.QueueOrdered.no_older_of_issued (h : s.QueueOrdered) (hq : q ∈ s.pwq.entries) (hi : q.isIssued = true) {f : PwqEntry}
    (hf : f ∈ s.pwq.entries) (hline : f.line = q.line) (hle : f.stamp ≤ q.stamp) : f = q := by
  obtain ⟨-, hpair, -⟩ := h
  obtain ⟨i, hil, rfl⟩ := List.getElem_of_mem hf
  obtain ⟨j, hjl, rfl⟩ := List.getElem_of_mem hq
  have hp := List.pairwise_iff_getElem.mp hpair
  rcases Nat.lt_trichotomy i j with hij | rfl | hij
  · obtain ⟨-, -, hissued, hboth, -⟩ := hp i j hil hjl hij
    exact absurd ⟨hissued hi, hi, hline⟩ hboth
  · rfl
  · obtain ⟨-, -, -, -, hlt⟩ := hp j i hjl hil hij
    omega

/-- A read that a removal leaves waits for all it must wait for: one held on the removed entry has no other before it. -/
theorem State.Linked.waits_afterRemoval (h : s.Linked) (ht : s.Removes q d v t) (hq : q ∈ s.pwq.entries) (hd : q.IssuedAs d)
    (he : e ∈ s.tracker.entries) (hr : e.afterRemoval q.slot = some e') : t.ReadWaits e' := by
  have hkept : e.state ≠ .held q.slot → e.work ≠ .ackM q.slot → (∀ awaited, e.work ≠ .flush awaited) → t.ReadWaits e' := by
    intro hs hw hf
    rw [TrackerEntry.afterRemoval_of_other hs hw hf] at hr
    rw [← Option.some.inj hr]
    exact (h.waits e he).transfer (h.stamps e he) (fun f hf => .inl ⟨f, ((ht.mem_queue f).mp hf).1, rfl, rfl, rfl⟩) fun f hf =>
      (h.queue.2.2 f hf).1
  cases h.tied e he with
  | @held a n g k q' hw hs hq' hline =>
    by_cases hslot : q'.slot = q.slot
    · obtain rfl := h.slot_inj hq' hq hslot
      rw [TrackerEntry.afterRemoval_held hs (by simp [TrackerEntry.isReadM, hw])] at hr
      cases hr
      intro f hf hafter
      obtain ⟨hf, hne⟩ := (ht.mem_queue f).mp hf
      have hwait := h.waits e he
      simp only [State.ReadWaits, hs] at hwait
      have hl : e.line = some f.line := hafter.1
      simp only [TrackerEntry.line, hw, Option.some.injEq] at hl
      exact hne (congrArg PwqEntry.slot (h.queue.no_older_of_issued hq (PwqEntry.isIssued_iff.mpr ⟨d, hd⟩) hf
        (hl.symm.trans hline.symm) (hwait q' hq rfl f hf hafter)))
    · exact hkept (by simp [hs, hslot]) (by simp [hw]) (by simp [hw])
  | ready hw hs | issuedM hw hs => exact hkept (by simp [hs]) (by simp [hw]) (by simp [hw])
  | issuedX hw hs =>
    exact hkept (by simp [hs]) (fun hk => by simp [TrackerEntry.isOnX, hk] at hw) fun awaited hk => by
      simp [TrackerEntry.isOnX, hk] at hw
  | @owed q' hw hs hq' hi =>
    by_cases hslot : q'.slot = q.slot
    · rw [TrackerEntry.afterRemoval_owed (hw.trans (by rw [hslot]))] at hr
      cases hr
    · exact hkept (by simp [hs]) (by simp [hw, hslot]) (by simp [hw])
  | flush hw hs =>
    rw [TrackerEntry.afterRemoval_flush hw] at hr
    split at hr <;> cases hr
    simp only [State.ReadWaits, hs]

/-- A queue entry that stays is tied as it was. -/
theorem State.Linked.slot_afterRemoval (h : s.Linked) (ht : s.Removes q d v t) (htag : s.sched.dtags[d] = .write q.slot)
    {f : PwqEntry} (hf : f ∈ t.pwq.entries) : t.SlotSound f := by
  obtain ⟨hf, hslot⟩ := (ht.mem_queue f).mp hf
  obtain ⟨hdtag, hone, hnone, howed⟩ := h.slots f hf
  refine ⟨fun c hc => ?_, hone, hnone, fun i hi => ?_⟩
  · have hcd : c ≠ d := fun hcd => by
      subst hcd
      have := hdtag c hc
      rw [htag] at this
      exact hslot (DtagState.write.inj this).symm
    rw [ht.dtag, if_neg hcd, hdtag c hc]
  · obtain ⟨e, he, hindex, hw⟩ := howed i hi
    refine ⟨e, ht.stays he ?_ (by simp [hw, hslot]) (by simp [hw]), hindex, hw⟩
    cases h.tied e he with
    | owed _ hs => simp [hs]
    | held hw' | ready hw' | issuedM hw' | flush hw' => cases hw.symm.trans hw'
    | issuedX hx hs => simp [hs]

/-- A queue entry removed with its dtag. -/
theorem State.Linked.remove (h : s.Linked) (hq : q ∈ s.pwq.entries) (hd : q.IssuedAs d) (hv : v.Unowned) (ht : s.Removes q d v t) :
    t.Linked := by
  have htag := (h.slots q hq).dtag d hd
  have hback : ∀ e' ∈ t.tracker.entries, ∃ e ∈ s.tracker.entries, e.afterRemoval q.slot = some e' := fun e' he' => by
    rw [ht.entries] at he'
    exact List.mem_filterMap.mp he'
  refine ⟨⟨?_, ?_, fun f hf => ?_⟩, ?_, ?_, fun e' he' => ?_, fun e' he' => ?_, fun e' he' => ?_,
    fun f hf => h.slot_afterRemoval ht htag hf, fun c => ?_, fun x => ?_⟩
  · rw [ht.queue]
    exact (List.length_filter_le _ _).trans h.queue.1
  · rw [ht.queue]
    exact h.queue.2.1.filter _
  · rw [ht.stamp]
    exact h.queue.2.2 f ((ht.mem_queue f).mp hf).1
  · rw [ht.entries]
    exact (List.length_filterMap_le _ _).trans h.room
  · rw [ht.entries]
    refine List.pairwise_filterMap.mpr (h.indices.imp fun {a b} hab a' ha b' hb => ?_)
    rwa [(TrackerEntry.afterRemoval_keeps ha).1, (TrackerEntry.afterRemoval_keeps hb).1]
  · obtain ⟨e, he, hr⟩ := hback e' he'
    rw [(TrackerEntry.afterRemoval_keeps hr).2, ht.stamp]
    exact h.stamps e he
  · obtain ⟨e, he, hr⟩ := hback e' he'
    exact h.tied_afterRemoval ht htag he hr
  · obtain ⟨e, he, hr⟩ := hback e' he'
    exact h.waits_afterRemoval ht hq hd he hr
  · by_cases hc : c = d
    · exact State.dtagSound_of_unowned (by rw [ht.dtag, if_pos hc]; exact hv)
    · refine (h.dtags c).transfer ((ht.dtag c).trans (if_neg hc)) (fun e he _ hs => ⟨e, ht.issued_stays h he hs, rfl, rfl, rfl⟩)
        fun f hf hfc => ⟨f, (ht.mem_queue f).mpr ⟨hf, fun hslot => hc ?_⟩, .refl f⟩
      obtain rfl := h.slot_inj hf hq hslot
      obtain ⟨_, hfc⟩ := hfc
      obtain ⟨_, hd⟩ := hd
      cases hfc.symm.trans hd
      rfl
  · exact (h.xtags x).transfer (by rw [ht.ext]) fun e he _ hs => ⟨e, ht.issued_stays h he hs, rfl, rfl, rfl⟩

end

end

end Sys2Proof.Machine
end

section
/-! Every command keeps the queue, the tracker and the windows linked (R72, R79, R80, R89, R101, R102, R118, R151). -/

namespace Sys2Proof.Machine

section
variable {s t : State} {e : Event}

/-! ### Changes that touch no reference -/

theorem State.Linked.modPort (h : s.Linked) (p : Port) (f : PortBlock → PortBlock) : (s.modPort p f).Linked :=
  h.congr rfl rfl rfl rfl rfl rfl rfl

theorem State.Linked.withPorts (h : s.Linked) (x : PerPort PortBlock) : ({ s with ports := x } : State).Linked :=
  h.congr rfl rfl rfl rfl rfl rfl rfl

theorem State.Linked.handAll (h : s.Linked) (rs : List ErrorRecord) : (s.handAll rs).Linked := by
  obtain ⟨-, -, -, hpwq, htracker, hsched, -, hext, -, hstamp⟩ := s.handAll_frame rs
  exact h.congr (by rw [hpwq]) (by rw [htracker]) hstamp (by rw [hsched]) (by rw [hsched]) (by rw [hext]) (by rw [hext])

theorem State.Linked.close (h : e.1.Linked) : (Event.close e).Linked := (h.withPorts _).handAll e.2

theorem State.Linked.record (h : e.1.Linked) : (Event.record e).Linked := h.handAll e.2

theorem State.Linked.countCorrected (h : s.Linked) : s.countCorrected.Linked := h.congr rfl rfl rfl rfl rfl rfl rfl

/-- Ending waiting heads changes the ports alone. -/
theorem State.endWaiting_eq (s : State) (g : Progress) (p : Port) : ∃ x, (s.endWaiting g p).1 = { s with ports := x } := by
  unfold State.endWaiting
  dsimp only
  split
  · split
    · split <;> exact ⟨_, rfl⟩
    · exact ⟨s.ports, rfl⟩
  · exact ⟨s.ports, rfl⟩

theorem State.endWaitingAll_eq (g : Progress) (ps : List Port) (e : Event) :
    ∃ x, (State.endWaitingAll g ps e).1 = { e.1 with ports := x } := by
  induction ps generalizing e with
  | nil => exact ⟨e.1.ports, rfl⟩
  | cons p ps ih =>
    obtain ⟨x, hx⟩ := ih ((e.1.endWaiting g p).1, e.2 ++ (e.1.endWaiting g p).2)
    obtain ⟨y, hy⟩ := e.1.endWaiting_eq g p
    exact ⟨x, by rw [State.endWaitingAll, hx, hy]⟩

theorem State.Linked.endWaitingAll {e : Event} (h : e.1.Linked) (g : Progress) (ps : List Port) :
    (State.endWaitingAll g ps e).1.Linked := by
  obtain ⟨x, hx⟩ := State.endWaitingAll_eq g ps e
  rw [hx]
  exact h.withPorts x

/-! ### Orphans (R111) -/

theorem State.Tied.orphan {f : TrackerEntry} (h : s.Tied f) (b : Bool) : s.Tied { f with orphan := b } := by
  cases h with
  | held hw hs hq hline => exact .held hw hs hq hline
  | ready hw hs => exact .ready hw hs
  | issuedM hw hs hd => exact .issuedM hw hs hd
  | issuedX hw hs hx => exact .issuedX hw hs hx
  | owed hw hs hq hi => exact .owed hw hs hq hi
  | flush hw hs hne hq => exact .flush hw hs hne hq

/-- The loss of a port's link changes who waits, and no reference. -/
theorem State.Linked.orphanPort (h : s.Linked) (p : Port) : (s.orphanPort p).Linked := by
  have hback : ∀ f' ∈ (s.orphanPort p).tracker.entries, ∃ f ∈ s.tracker.entries, ∃ b, f' = { f with orphan := b } := fun f' hf' => by
    obtain ⟨f, hf, rfl⟩ := List.mem_map.mp hf'
    refine ⟨f, hf, ?_⟩
    split
    · exact ⟨true, rfl⟩
    · exact ⟨f.orphan, rfl⟩
  have hstays : ∀ f ∈ s.tracker.entries,
      ∃ f' ∈ (s.orphanPort p).tracker.entries, f'.index = f.index ∧ f'.work = f.work ∧ f'.state = f.state := fun f hf =>
    ⟨_, List.mem_map_of_mem hf, by split <;> exact ⟨rfl, rfl, rfl⟩⟩
  refine ⟨h.queue, ?_, ?_, fun f' hf' => ?_, fun f' hf' => ?_, fun f' hf' => ?_, fun q hq => ?_, fun d => ?_, fun x => ?_⟩
  · simpa [State.orphanPort] using h.room
  · have hidx : ∀ f : TrackerEntry, (if f.port = p then { f with orphan := true } else f).index = f.index := fun f => by
      split <;> rfl
    exact List.pairwise_map.mpr (h.indices.imp fun hab => by rwa [hidx, hidx])
  · obtain ⟨f, hf, b, rfl⟩ := hback f' hf'
    exact h.stamps f hf
  · obtain ⟨f, hf, b, rfl⟩ := hback f' hf'
    exact ((h.tied f hf).orphan b).transfer (fun q hq _ => ⟨q, hq, .refl q⟩) (fun _ _ _ _ hd => ⟨hd, rfl⟩) fun _ _ _ hx => ⟨hx, rfl⟩
  · obtain ⟨f, hf, b, rfl⟩ := hback f' hf'
    exact h.waits f hf
  · obtain ⟨hdtag, hone, hnone, howed⟩ := h.slots q hq
    refine ⟨hdtag, hone, hnone, fun i hi => ?_⟩
    obtain ⟨f, hf, hindex, hw⟩ := howed i hi
    obtain ⟨f', hf', hi', hw', -⟩ := hstays f hf
    exact ⟨f', hf', hi'.trans hindex, hw'.trans hw⟩
  · exact (h.dtags d).transfer rfl (fun f hf _ _ => hstays f hf) fun q hq _ => ⟨q, hq, .refl q⟩
  · exact (h.xtags x).transfer rfl fun f hf _ _ => hstays f hf

/-! ### The links of M and X lost (R48, R49, R92, R114, R115) -/

theorem TrackerEntry.isReadM_eq_false_of_isOnX {f : TrackerEntry} (h : f.isOnX = true) : f.isReadM = false := by
  unfold TrackerEntry.isOnX at h
  unfold TrackerEntry.isReadM
  cases hk : f.work <;> simp_all

/-- With all of the queue gone a FLUSH has nothing left to wait for, and any other entry is as it was. -/
theorem TrackerEntry.afterGone_all (f : TrackerEntry) :
    f.afterGone (fun _ => true) = match f.work with | .flush _ => none | _ => some f := by
  unfold TrackerEntry.afterGone
  cases f.work <;> simp

/-- An entry that owes nothing to the queue is not among those it owes. -/
theorem State.Linked.not_owed (h : s.Linked) {f : TrackerEntry} (hf : f ∈ s.tracker.entries) (hw : ∀ slot, f.work ≠ .ackM slot) :
    f.index ∉ s.pwq.entries.flatMap (·.owed) := by
  intro hi
  obtain ⟨q, hq, hi⟩ := List.mem_flatMap.mp hi
  exact hw _ ((h.mem_owed_iff hq hf).mp hi)

theorem State.Linked.owed_of_ack (h : s.Linked) {f : TrackerEntry} (hf : f ∈ s.tracker.entries) {slot : Fin 16}
    (hw : f.work = .ackM slot) : f.index ∈ s.pwq.entries.flatMap (·.owed) := by
  cases h.tied f hf with
  | owed hw' _ hq hi => exact List.mem_flatMap.mpr ⟨_, hq, hi⟩
  | held hw' | ready hw' | issuedM hw' | flush hw' => cases hw.symm.trans hw'
  | issuedX hx => simp [TrackerEntry.isOnX, hw] at hx

/-- What the loss of M leaves of the tracker: its entries on X (R114, R92). -/
theorem State.Linked.queueLost_tracker (h : s.Linked) :
    s.queueLost.tracker = { s.tracker with entries := s.tracker.entries.filter TrackerEntry.isOnX } := by
  have hentries : s.queueLost.tracker = { s.tracker with
      entries := ((s.tracker.entries.filter fun f => !f.isReadM).filter fun f => decide (f.index ∉ s.pwq.entries.flatMap (·.owed))).filterMap
        fun f => f.afterGone fun _ => true } := by
    unfold State.queueLost State.discardPwq
    dsimp only [State.shrinkFlushes]
    rw [shrinkFlushes_eq, show s.readsLost.pwq.entries = s.pwq.entries from rfl, answerOwed_eq _ _ _ h.flatMap_owed_nodup]
    rfl
  rw [hentries, List.filter_filter, List.filterMap_filter, ← List.filterMap_eq_filter]
  refine congrArg (fun es => ({ s.tracker with entries := es } : Tracker)) (List.filterMap_congr fun f hf => ?_)
  rw [TrackerEntry.afterGone_all]
  cases hw : f.work with
  | readM | flush => simp [Option.guard, TrackerEntry.isReadM, TrackerEntry.isOnX, hw]
  | ackM slot => simp [Option.guard, TrackerEntry.isOnX, hw, h.owed_of_ack hf hw, -List.mem_flatMap]
  | readX | ackX =>
    have hnot := h.not_owed hf (by simp [hw])
    simp [Option.guard, TrackerEntry.isReadM, TrackerEntry.isOnX, hw, hnot, -List.mem_flatMap]

theorem State.queueLost_eq (s : State) : s.queueLost = { s with
    ports := s.queueLost.ports
    pwq := { s.pwq with entries := [] }
    tracker := s.queueLost.tracker
    sched := { s.sched.flip with link := .down, hold := none, out := [] }
    sweep := { s.sweep with queue := [] } } := by
  let flagged : State := { s.readsLost.withPwq [] with ports := flagAll s.pwq.entries s.readsLost.ports }
  obtain ⟨h1, h2, h3, h4, h5, h6, h7, h8, h9, h10⟩ := answerOwed_frame .targetDown (s.pwq.entries.flatMap (·.owed)) flagged
  have hq : s.queueLost = { (answerOwed .targetDown (s.pwq.entries.flatMap (·.owed)) flagged).shrinkFlushes fun _ => true with
      sweep := { (answerOwed .targetDown (s.pwq.entries.flatMap (·.owed)) flagged).sweep with queue := [] } } := rfl
  rw [hq]
  simp only [State.shrinkFlushes, h1, h2, h3, h4, h5, h6, h7, h8, h9, h10]
  rfl

theorem Vector.getElem_replicate_fin {α : Type} {n : Nat} (v : α) (i : Fin n) : (Vector.replicate n v)[i] = v := by simp

theorem State.Linked.queueLost (h : s.Linked) : s.queueLost.Linked := by
  have heq := s.queueLost_eq
  have hq : s.queueLost.pwq.entries = [] := by rw [heq]
  have hext : s.queueLost.ext = s.ext := by rw [heq]
  have hstamp : s.queueLost.stamp = s.stamp := by rw [heq]
  have hfree : ∀ d : Fin 8, s.queueLost.sched.dtags[d] = .free := fun d => by
    rw [heq]; exact Vector.getElem_replicate_fin _ d
  have hmem : ∀ f, f ∈ s.queueLost.tracker.entries ↔ f ∈ s.tracker.entries ∧ f.isOnX = true := fun f => by
    rw [h.queueLost_tracker]; exact List.mem_filter
  have htied : ∀ f ∈ s.queueLost.tracker.entries, ∃ x timer, f.isOnX = true ∧ f.state = .issued x s.ext.epoch timer
      ∧ s.ext.xtags[x] = .allocated f.index := fun f hf => by
    obtain ⟨hf, hx⟩ := (hmem f).mp hf
    cases h.tied f hf with
    | issuedX hw hs hxt => exact ⟨_, _, hw, hs, hxt⟩
    | held hw | ready hw | issuedM hw | owed hw | flush hw => simp [TrackerEntry.isOnX, hw] at hx
  refine ⟨⟨by simp [hq], by simp [hq], by simp [hq]⟩, ?_, ?_, fun f hf => ?_, fun f hf => ?_, fun f hf => ?_,
    fun q hq' => by simp [hq] at hq', fun d => ?_, fun x => ?_⟩
  · rw [h.queueLost_tracker]
    exact (List.length_filter_le _ _).trans h.room
  · rw [h.queueLost_tracker]
    exact h.indices.filter _
  · rw [hstamp]
    exact h.stamps f ((hmem f).mp hf).1
  · obtain ⟨x, timer, hw, hs, hxt⟩ := htied f hf
    exact .issuedX hw (hext.symm ▸ hs) (hext.symm ▸ hxt)
  · obtain ⟨x, timer, -, hs, -⟩ := htied f hf
    simp only [State.ReadWaits, hs]
  · exact State.dtagSound_of_unowned (by rw [hfree]; exact DtagState.unowned_free)
  · exact (h.xtags x).transfer (by rw [hext]) fun f hf hw _ => ⟨f, (hmem f).mpr ⟨hf, hw⟩, rfl, rfl, rfl⟩

theorem State.Linked.loseM (h : s.Linked) : s.loseM.1.Linked := by
  rw [State.loseM_eq]
  exact State.Linked.endWaitingAll (e := (s.queueLost, s.readsLost.discardPwq.2)) h.queueLost _ _

theorem State.Linked.accessesLost (h : s.Linked) : s.accessesLost.Linked := by
  have hfree : ∀ x : Fin 8, s.accessesLost.ext.xtags[x] = .free := fun x => Vector.getElem_replicate_fin _ x
  refine h.prune (fun f => !f.isOnX) rfl rfl rfl (fun f _ slot hw => by simp [TrackerEntry.isOnX, hw]) (fun _ => .inl rfl)
    (fun _ _ f _ hr _ => ?_) rfl fun x => .inr ⟨fun i => by simp [hfree], fun f _ hw _ => by simp [hw]⟩
  cases hw : f.isOnX
  · rfl
  · simp [TrackerEntry.isReadM_eq_false_of_isOnX hw] at hr

theorem State.Linked.loseX (h : s.Linked) : s.loseX.1.Linked := by
  rw [State.loseX_eq]
  exact State.Linked.endWaitingAll (e := (s.accessesLost, [])) h.accessesLost _ _

/-! ### Events that let no request leave -/

/-- The winner of an arbitration is a candidate (R125). -/
theorem State.winner_of_decision {how : Deciding} {w : Winner} (h : s.decision = some (how, w)) :
    (∃ p f, w = .port f ∧ s.portCandidate p = some f) ∨ (∃ q, w = .pwq q ∧ s.pwqCandidate = some q) ∨ ∃ row, w = .sweep row := by
  have hcand : ∀ m, s.candidate m = some w →
      (∃ p f, w = .port f ∧ s.portCandidate p = some f) ∨ ∃ q, w = .pwq q ∧ s.pwqCandidate = some q := by
    intro m hm
    cases m with
    | port p =>
      obtain ⟨f, hf, rfl⟩ := Option.map_eq_some_iff.mp hm
      exact .inl ⟨p, f, rfl, hf⟩
    | pwq =>
      obtain ⟨q, hq, rfl⟩ := Option.map_eq_some_iff.mp hm
      exact .inr ⟨q, rfl, hq⟩
  have hother : s.urgentOrRotation = some (how, w) →
      (∃ p f, w = .port f ∧ s.portCandidate p = some f) ∨ ∃ q, w = .pwq q ∧ s.pwqCandidate = some q := by
    intro ho
    unfold State.urgentOrRotation at ho
    split at ho
    · obtain ⟨q, hq, he⟩ := Option.map_eq_some_iff.mp ho
      cases he
      exact .inr ⟨q, rfl, hq⟩
    · obtain ⟨⟨m, w'⟩, hr, he⟩ := Option.map_eq_some_iff.mp ho
      cases he
      obtain ⟨m', -, hm⟩ := List.exists_of_findSome?_eq_some hr
      obtain ⟨w'', hc, he⟩ := Option.map_eq_some_iff.mp hm
      cases he
      exact hcand _ hc
  have hfav : s.favouredOrOther = some (how, w) →
      (∃ p f, w = .port f ∧ s.portCandidate p = some f) ∨ ∃ q, w = .pwq q ∧ s.pwqCandidate = some q := by
    intro hf
    unfold State.favouredOrOther at hf
    split at hf
    · next f hc =>
      obtain ⟨p, -, hp⟩ := Option.bind_eq_some_iff.mp hc
      split at hf
      · cases hf; exact .inl ⟨p, f, rfl, hp⟩
      · split at hf
        · cases hf; exact .inl ⟨p, f, rfl, hp⟩
        · exact hother hf
    · exact hother hf
  unfold State.decision at h
  split at h
  · exact (hfav h).elim .inl fun hq => .inr (.inl hq)
  · split at h
    · cases h; exact .inr (.inr ⟨_, rfl⟩)
    · split at h
      · next hd =>
        cases h
        exact (hfav hd).elim .inl fun hq => .inr (.inl hq)
      · cases h; exact .inr (.inr ⟨_, rfl⟩)

theorem State.Linked.grant (h : s.Linked) {d : Fin 8} (hd : s.freeDtag = some d) {how : Deciding} {w : Winner}
    (hw : s.decision = some (how, w)) : (s.grant d how w).Linked := by
  have hissue : (s.issue d w).Linked := by
    obtain ⟨p, f, rfl, hp⟩ | ⟨q, rfl, hq⟩ | ⟨row, rfl⟩ := State.winner_of_decision hw
    · exact h.issuePort hd hp
    · exact h.issuePwq hd hq
    · exact h.issueSweep hd row
  exact hissue.congr rfl rfl rfl rfl rfl rfl rfl

theorem State.Linked.read_of_dtag (h : s.Linked) {d : Fin 8} {i : Fin 24} {n : Nat} (hd : s.sched.dtags[d] = .read i n)
    {f : TrackerEntry} (hf : s.entryAt i = some f) : f ∈ s.tracker.entries ∧ f.isReadM = true ∧ f.IssuedAs d := by
  obtain ⟨hi, hmem⟩ := State.entryAt_eq_some hf
  obtain ⟨f', hf', hi', hs, a, g, k, hw⟩ := (h.dtags d).read i n hd
  obtain rfl := h.index_inj hf' hmem (hi'.trans hi.symm)
  exact ⟨hmem, by simp [TrackerEntry.isReadM, hw], hs⟩

theorem State.Linked.access_of_xtag (h : s.Linked) {x : Fin 8} {i : Fin 24} (hx : s.ext.xtags[x] = .allocated i)
    {f : TrackerEntry} (hf : s.entryAt i = some f) : f ∈ s.tracker.entries ∧ f.isOnX = true ∧ f.IssuedAs x := by
  obtain ⟨hi, hmem⟩ := State.entryAt_eq_some hf
  obtain ⟨f', hf', hi', hw, hs⟩ := h.xtags x i hx
  obtain rfl := h.index_inj hf' hmem (hi'.trans hi.symm)
  exact ⟨hmem, hw, hs⟩

theorem State.Linked.queued_of_dtag (h : s.Linked) {d : Fin 8} {slot : Fin 16} (hd : s.sched.dtags[d] = .write slot)
    {q : PwqEntry} (hq : s.pwqAt slot = some q) : q ∈ s.pwq.entries ∧ q.IssuedAs d := by
  obtain ⟨hslot, hmem⟩ := State.pwqAt_eq_some hq
  obtain ⟨q', hq', hslot', hs⟩ := (h.dtags d).write slot hd
  obtain rfl := h.slot_inj hq' hmem (hslot'.trans hslot.symm)
  exact ⟨hmem, hs⟩

/-- A removal after its dtag was given back, whatever else of the sweeps it counted. -/
theorem State.Linked.removePwq (h : s.Linked) {q : PwqEntry} (hq : q ∈ s.pwq.entries) {d : Fin 8} (hd : q.IssuedAs d) {v : DtagState}
    (hv : v.Unowned) {u : State} (hpwq : u.pwq = s.pwq) (htracker : u.tracker = s.tracker) (hsched : u.sched = (s.setDtag d v).sched)
    (hext : u.ext = s.ext) (hstamp : u.stamp = s.stamp) (st : Status) (failed : Option RecordKind) :
    (u.removePwq q st failed).1.Linked := by
  obtain ⟨-, -, -, fpwq, fsched, -, fext, -, -, fstamp⟩ := u.removePwq_frame q st failed
  refine h.remove hq hd hv ⟨?_, ?_, ?_, ?_, ?_, ?_⟩
  · rw [fpwq, hpwq]
  · rw [h.removePwq_tracker hq htracker]
  · rw [fstamp, hstamp]
  · rw [fsched, hsched]
  · rw [fsched, hsched]
    rfl
  · rw [fext, hext]

theorem State.Linked.expireEntry (h : s.Linked) {f : TrackerEntry} (hf : f ∈ s.tracker.entries) {tag : Fin 8} (hs : f.IssuedAs tag)
    (st : Status) (data : List Byte) : ((s.staleTag f tag).endEntry f st data).Linked := by
  obtain ⟨_, _, hst⟩ := TrackerEntry.issuedAs_iff.mp hs
  unfold State.staleTag
  split
  · next hx => exact h.endAccess hf hx hs (by simp) st data
  · next hx =>
    refine h.endRead hf ?_ hs DtagState.unowned_stale st data
    cases h.tied f hf with
    | issuedM hw => simp [TrackerEntry.isReadM, hw]
    | issuedX hw => exact absurd hw hx
    | held _ hs' | ready _ hs' | owed _ hs' | flush _ hs' => cases hst.symm.trans hs'

theorem State.Staying.linked (he : s.Staying e) (h : s.Linked) : e.1.Linked := by
  cases he with
  | granted d how w hd hw => exact h.grant hd hw
  | lateM d hd =>
    exact (h.setDtag (by rw [hd]; exact DtagState.unowned_stale) DtagState.unowned_free).congr rfl rfl rfl rfl rfl rfl rfl
  | readEnds d i n f r hd hf =>
    obtain ⟨hmem, hread, hs⟩ := h.read_of_dtag hd hf
    have hend := fun st data => h.endRead hmem hread hs DtagState.unowned_free st data
    unfold State.takeRead
    dsimp only
    split
    · exact hend _ _
    · exact (hend _ _).countCorrected
    all_goals exact hend _ _
  | writeEnds d slot q r hd hq =>
    obtain ⟨hmem, hs⟩ := h.queued_of_dtag hd hq
    unfold State.takePwq
    dsimp only
    split
    · exact h.removePwq (u := s.setDtag d .free) hmem hs DtagState.unowned_free rfl rfl rfl rfl rfl _ _
    · exact h.removePwq (u := (s.setDtag d .free).countCorrected) hmem hs DtagState.unowned_free rfl rfl rfl rfl rfl _ _
    all_goals exact h.removePwq (u := s.setDtag d .free) hmem hs DtagState.unowned_free rfl rfl rfl rfl rfl _ _
  | sweepEnds d row timer r hd =>
    have hfree := h.setDtag (d := d) (by rw [hd]; exact DtagState.unowned_sweep row timer) DtagState.unowned_free
    unfold State.takeSweep
    dsimp only
    split
    · exact hfree
    · exact hfree.countCorrected
    all_goals exact hfree
  | lateX x hx => exact (h.setXtag (by simp [hx]) (by simp)).congr rfl rfl rfl rfl rfl rfl rfl
  | accessEnds i f c hx hf =>
    obtain ⟨hmem, honX, hs⟩ := h.access_of_xtag hx hf
    unfold State.takeX
    dsimp only
    split <;> exact h.endAccess hmem honX hs (by simp) _ _
  | sealExpires => exact h.sealWhere _
  | writeExpires slot q d timer hq hs =>
    obtain ⟨-, hmem⟩ := State.pwqAt_eq_some hq
    exact h.removePwq (u := s.setDtag d .stale) hmem ⟨timer, hs⟩ DtagState.unowned_stale rfl rfl rfl rfl rfl _ _
  | entryExpires i f tag ep timer hf hs =>
    obtain ⟨-, hmem⟩ := State.entryAt_eq_some hf
    exact h.expireEntry hmem (TrackerEntry.issuedAs_iff.mpr ⟨ep, timer, hs⟩) _ _
  | sweepExpires d row timer hd => exact h.setDtag (by rw [hd]; exact DtagState.unowned_sweep row timer) DtagState.unowned_stale
  | _ => exact h.congr rfl rfl rfl rfl rfl rfl rfl

/-! ### Events that may let requests leave -/

section
variable {p : Port} {r : Request}

theorem State.HeadOutcome.linked (ho : s.HeadOutcome p r e) (h : s.Linked) : e.1.Linked := by
  cases ho with
  | nothing => exact h
  | answered st => exact h.modPort p _
  | dropped kind c => exact h.modPort p _
  | duplicate record => exact h.modPort p _
  | parked g hg => exact h.modPort p _
  | waits g c hpast => exact h.modPort p _
  | read a c hpast hroom hk =>
    unfold State.dispatchRead
    split
    · next hy => exact (h.addReady hroom.2 p r.tag a r.length c.region c.generation hy).modPort p _
    · next q hy =>
      dsimp only
      split
      · exact (h.sealWhere _).modPort p _
      · exact (h.addHeld hroom.2 p r.tag a r.length c.region c.generation hy).modPort p _
  | write a c hpast hroom hk =>
    unfold State.dispatchWrite
    dsimp only
    split
    · exact h.modPort p _
    · next t slot ht =>
      have htaken := h.takenIn ht
      by_cases ha : r.ack = true
      · rw [if_pos ha] at htaken ⊢
        have hroom := (hroom.resolve_left (by simp [Request.posted, ha])).2
        have hindex : t.freeIndex = s.freeIndex := by rw [State.freeIndex, State.freeIndex, htaken.tracker]
        let new : TrackerEntry := ⟨t.freeIndex, p, r.tag, .ackM slot, .waiting, false, t.stamp⟩
        refine State.Linked.modPort (htaken.linked (u := t.addEntry p r.tag (.ackM slot) .waiting) h (some new) (by simp [new, hindex])
          (fun f hf => ?_) rfl rfl (Nat.le_succ _) rfl rfl) p _
        obtain rfl := Option.mem_some.mp hf
        exact ⟨hroom, hindex, rfl, rfl, Nat.lt_succ_self _⟩
      · rw [if_neg ha] at htaken ⊢
        exact (htaken.linked h none rfl (fun _ hf => nomatch hf) (by simp) rfl (Nat.le_refl _) rfl rfl).modPort p _
  | flush hpast hroom hk =>
    unfold State.dispatchFlush
    dsimp only
    split
    · exact h.modPort p _
    · next hne => exact (h.addFlush hroom.2 p r.tag (by simpa using hne)).modPort p _

theorem State.Advancing.linked (ha : s.Advancing p e) (h : s.Linked) : e.1.Linked := by
  obtain rfl | ⟨r, rest, -, -, ho⟩ := ha
  · exact h
  · exact ho.linked h

theorem State.Leaving.linked (he : s.Leaving e) (h : s.Linked) : e.1.Linked := by
  cases he with
  | nothing => exact h
  | enqueued p r => exact h.modPort p _
  | discarded p => exact h.modPort p _
  | advanced p _ ha => exact ha.linked h
  | forwarded _ _ _ hc =>
    cases hc with
    | posted hc hr => exact h.congr rfl rfl rfl rfl rfl rfl rfl
    | tracked hc hposted hroom hx => exact h.forwardTracked hroom.2 _ _ _ _ hx
  | lostM => exact h.loseM
  | lostX => exact h.loseX

/-! ### The Engine and every command -/

/-- Nothing in flight refers to nothing. -/
theorem State.linked_of_empty (hq : s.pwq.entries = []) (ht : s.tracker.entries = []) (hd : ∀ d : Fin 8, s.sched.dtags[d] = .free)
    (hx : ∀ x : Fin 8, s.ext.xtags[x] = .free) : s.Linked :=
  ⟨⟨by simp [hq], by simp [hq], by simp [hq]⟩, by simp [ht], by simp [ht], by simp [ht], by simp [ht], by simp [ht], by simp [hq],
    fun d => State.dtagSound_of_unowned (by rw [hd]; exact DtagState.unowned_free),
    fun x => State.xtagSound_of_unowned (by simp [hx])⟩

theorem State.reset_linked : State.reset.Linked := State.linked_of_empty rfl rfl (by decide) (by decide)

theorem State.ServiceOutcome.linked {row : CtrlRow} {v : Served} (hv : s.ServiceOutcome p r row v) (h : s.Linked) : v.state.Linked := by
  cases hv with
  | rights q rights _ _ e he => exact he.linked (h.modPort q _)
  | combineWindow n _ es hes =>
    obtain rfl | rfl := hes
    · exact h.congr rfl rfl rfl rfl rfl rfl rfl
    · exact (h.seal fun q => .inr rfl).congr rfl rfl rfl rfl rfl rfl rfl
  | warmReset =>
    exact State.linked_of_empty rfl serveWarmReset_tracker (fun d => Vector.getElem_replicate_fin _ d) fun x =>
      Vector.getElem_replicate_fin _ x
  | _ => exact h.congr rfl rfl rfl rfl rfl rfl rfl

theorem exec_linked {i : Instr} (h : s.Linked) (hx : exec i s = .next t) : t.Linked := by
  cases exec_effect hx with
  | reset => exact State.reset_linked.congr rfl rfl rfl rfl rfl rfl rfl
  | linkReady p => exact h.modPort p _
  | linkLost p _ rs => exact State.Linked.record (e := (_, rs)) ((h.modPort p _).orphanPort p)
  | unserved _ p r st hw =>
    have hsel : (s.select p).Linked := h.congr rfl rfl rfl rfl rfl rfl rfl
    exact State.Linked.close (hsel.modPort p _)
  | served row p r v hw _ _ hv =>
    have hsel : (s.select p).Linked := h.congr rfl rfl rfl rfl rfl rfl rfl
    exact State.Linked.close ((hv.linked hsel).modPort p _)
  | leaving _ e he => exact (he.linked h).close
  | staying _ e he => exact (he.linked h).record

end

end

end Sys2Proof.Machine
end

section
/-! Each port has at most one live FLUSH, behind its barrier (R57, R67, R110), and with it that every step keeps the work tied. -/

namespace Sys2Proof.Machine

/-! ### Barriers -/

/-- Every barrier that was held is held. -/
def PerPort.KeepsBarriers (x y : PerPort PortBlock) : Prop := ∀ p, (x.get p).barrier = true → (y.get p).barrier = true

theorem PerPort.KeepsBarriers.refl (x : PerPort PortBlock) : x.KeepsBarriers x := fun _ h => h

theorem PerPort.KeepsBarriers.trans {x y z : PerPort PortBlock} (h : x.KeepsBarriers y) (h' : y.KeepsBarriers z) :
    x.KeepsBarriers z := fun p hp => h' p (h p hp)

theorem PerPort.keepsBarriers_mod (x : PerPort PortBlock) (p : Port) {f : PortBlock → PortBlock}
    (h : (x.get p).barrier = true → (f (x.get p)).barrier = true) : x.KeepsBarriers (x.mod p f) := fun q hq => by
  rw [PerPort.get_mod]
  split
  · next hqp => exact h (hqp ▸ hq)
  · exact hq

theorem PerPort.completeEntry_keepsBarriers (x : PerPort PortBlock) (e : TrackerEntry) (st : Status) (data : List Byte) :
    x.KeepsBarriers (x.completeEntry e st data) := by
  unfold PerPort.completeEntry
  split
  · exact .refl x
  · exact x.keepsBarriers_mod _ fun h => by rw [PortBlock.complete_eq]; exact h

theorem PerPort.keepsBarriers_foldl {α : Type} {f : PerPort PortBlock → α → PerPort PortBlock}
    (hf : ∀ y a, PerPort.KeepsBarriers y (f y a)) (as : List α) (x : PerPort PortBlock) : x.KeepsBarriers (as.foldl f x) := by
  induction as generalizing x with
  | nil => exact .refl x
  | cons a as ih => exact (hf x a).trans (ih _)

theorem PerPort.completeAll_keepsBarriers (x : PerPort PortBlock) (es : List TrackerEntry) (st : Status) :
    x.KeepsBarriers (x.completeAll es st) :=
  PerPort.keepsBarriers_foldl (fun y e => y.completeEntry_keepsBarriers e st []) es x

theorem flagContributors_keepsBarriers (c : PerPort Bool) (x : PerPort PortBlock) : x.KeepsBarriers (flagContributors c x) :=
  fun p hp => by
    rw [flagContributors, PerPort.get_zip, PortBlock.contribute]
    split <;> exact hp

theorem flagAll_keepsBarriers (qs : List PwqEntry) (x : PerPort PortBlock) : x.KeepsBarriers (flagAll qs x) :=
  PerPort.keepsBarriers_foldl (f := fun y (q : PwqEntry) => flagContributors q.contributors y)
    (fun y q => flagContributors_keepsBarriers q.contributors y) qs x

section
variable (s : State)

theorem answerOwed_keepsBarriers (st : Status) (is : List (Fin 24)) : s.ports.KeepsBarriers (answerOwed st is s).ports := by
  induction is generalizing s with
  | nil => exact .refl _
  | cons i is ih =>
    unfold answerOwed
    cases s.entryAt i with
    | some e => exact (PerPort.completeEntry_keepsBarriers _ e st []).trans (ih (s.endEntry e st []))
    | none => exact ih s

theorem State.endWaiting_keepsBarriers (g : Progress) (p : Port) : s.ports.KeepsBarriers (s.endWaiting g p).1.ports := by
  unfold State.endWaiting
  dsimp only
  split
  · split
    · split
      · exact s.ports.keepsBarriers_mod p fun h => h
      · exact s.ports.keepsBarriers_mod p fun h => by simpa [PortBlock.answer, PortBlock.leave, PortBlock.complete_eq] using h
    · exact .refl _
  · exact .refl _

theorem State.endWaitingAll_keepsBarriers (g : Progress) (ps : List Port) (e : Event) :
    e.1.ports.KeepsBarriers (State.endWaitingAll g ps e).1.ports := by
  induction ps generalizing e with
  | nil => exact .refl _
  | cons p ps ih =>
    exact (State.endWaiting_keepsBarriers e.1 g p).trans (ih ((e.1.endWaiting g p).1, e.2 ++ (e.1.endWaiting g p).2))

theorem State.handAll_keepsBarriers (rs : List ErrorRecord) : s.ports.KeepsBarriers (s.handAll rs).ports := fun p hp => by
  rw [State.handAll_port]
  exact hp

theorem PerPort.returnCredits_keepsBarriers (x : PerPort PortBlock) : x.KeepsBarriers (x.map PortBlock.returnCredits) := fun p hp => by
  rw [PerPort.get_map, PortBlock.returnCredits]
  split <;> exact hp

end

/-! ### What keeps the FLUSHes apart -/

/-- A head past step 3 found its barrier released. -/
def PortBlock.WaitsFree (b : PortBlock) : Prop := b.progress.PastBarrier → b.barrier = false

section
variable {s t : State}

theorem PortBlock.WaitsFree.settled {b b' : PortBlock} (h : b.WaitsFree) (hb : b.Settled b') : b'.WaitsFree := by
  intro hw
  obtain hg | ⟨-, hg, hfree⟩ := hb
  · simp [Progress.PastBarrier, hg] at hw
  · exact hfree (h (hg ▸ hw))

theorem State.FlushesApart.waitsFree (h : s.FlushesApart) (p : Port) : (s.ports.get p).WaitsFree := PerPort.all_iff_get.mp h.2.2 p

/-- FLUSHes stay apart while no entry is made, no barrier is released at a port that keeps a live FLUSH, and no head passes a barrier
that is held. -/
theorem State.FlushesApart.thinned (h : s.FlushesApart) (hthin : Thinned s.tracker.entries t.tracker.entries)
    (hb : ∀ e ∈ t.tracker.entries, e.isLiveFlush = true → (s.ports.get e.port).barrier = true → (t.ports.get e.port).barrier = true)
    (hw : ∀ p, (t.ports.get p).WaitsFree) : t.FlushesApart := by
  obtain ⟨hpair, hbarrier, -⟩ := h
  refine ⟨hthin.pairwise (fun a b a' b' ha hb hab ⟨hfa, hfb, hp⟩ => hab ⟨ha.flush hfa, hb.flush hfb, ?_⟩) hpair, fun e' he' hf => ?_,
    PerPort.all_iff_get.mpr hw⟩
  · rw [← ha.port, ← hb.port, hp]
  · obtain ⟨e, he, hr⟩ := hthin.exists_of_mem he'
    exact hb e' he' hf (hr.port ▸ hbarrier e he (hr.flush hf))

theorem State.FlushesApart.calm (h : s.FlushesApart) (hc : s.Calm t) (hb : s.ports.KeepsBarriers t.ports) : t.FlushesApart :=
  h.thinned hc.tracker (fun e _ _ => hb e.port) fun p => (h.waitsFree p).settled (hc.ports p)

/-- A new entry that is no FLUSH, or a FLUSH of a port whose barrier was released and is held now. -/
theorem State.FlushesApart.newEntry (h : s.FlushesApart) {e : TrackerEntry} (hentries : t.tracker.entries = s.tracker.entries ++ [e])
    (hflush : e.isLiveFlush = true → (s.ports.get e.port).barrier = false ∧ (t.ports.get e.port).barrier = true)
    (hports : ∀ p, (s.ports.get p).Settled (t.ports.get p)) (hb : s.ports.KeepsBarriers t.ports) : t.FlushesApart := by
  obtain ⟨hpair, hbarrier, -⟩ := id h
  refine ⟨?_, fun f hf hl => ?_, PerPort.all_iff_get.mpr fun p => (h.waitsFree p).settled (hports p)⟩
  · rw [hentries, List.pairwise_append]
    refine ⟨hpair, List.pairwise_singleton _ _, fun a ha b hb ⟨hfa, hfb, hp⟩ => ?_⟩
    obtain rfl := List.mem_singleton.mp hb
    have := hbarrier a ha hfa
    rw [hp, (hflush hfb).1] at this
    cases this
  · rw [hentries, List.mem_append, List.mem_singleton] at hf
    obtain hf | rfl := hf
    · exact hb f.port (hbarrier f hf hl)
    · exact (hflush hl).2

/-! ### FLUSHes that end (R110) -/

/-- A FLUSH that ends releases its own port's barrier alone. -/
theorem TrackerEntry.endsFlush_barrier {gone : Fin 16 → Bool} {e : TrackerEntry} {x : PerPort PortBlock} {p : Port}
    (h : e.port = p → e.orphan = false → e.afterGone gone ≠ none) :
    ((e.endsFlush gone x).get p).barrier = (x.get p).barrier := by
  unfold TrackerEntry.endsFlush
  split
  · next hend =>
    rw [Bool.and_eq_true, Option.isNone_iff_eq_none, Bool.not_eq_true'] at hend
    rw [PerPort.get_mod_other _ _ fun hp => h hp.symm hend.2 hend.1]
  · rfl

theorem foldl_endsFlush_barrier {gone : Fin 16 → Bool} {es : List TrackerEntry} {p : Port}
    (h : ∀ e ∈ es, e.port = p → e.orphan = false → e.afterGone gone ≠ none) (x : PerPort PortBlock) :
    ((es.foldl (fun y e => e.endsFlush gone y) x).get p).barrier = (x.get p).barrier := by
  induction es generalizing x with
  | nil => rfl
  | cons e es ih =>
    rw [List.foldl_cons, ih fun f hf => h f (List.mem_cons_of_mem _ hf)]
    exact TrackerEntry.endsFlush_barrier (h e List.mem_cons_self)

theorem TrackerEntry.isLiveFlush_of_gone {gone : Fin 16 → Bool} {e : TrackerEntry} (h : e.afterGone gone = none)
    (ho : e.orphan = false) : e.isLiveFlush = true := by
  unfold TrackerEntry.afterGone at h
  split at h
  · next hw => simp [TrackerEntry.isLiveFlush, hw, ho]
  · cases h

/-- The removal of slots keeps the FLUSHes apart: where one ends, no other was live. -/
theorem State.FlushesApart.shrinkFlushes (h : s.FlushesApart) (gone : Fin 16 → Bool) : (s.shrinkFlushes gone).FlushesApart := by
  obtain ⟨hpair, -, -⟩ := id h
  refine h.thinned (s.shrinkFlushes_thins gone) (fun e' he' hf hb => ?_) fun p =>
    (h.waitsFree p).settled (s.shrinkFlushes_answers gone p).settled
  simp only [State.shrinkFlushes, shrinkFlushes_eq] at he' ⊢
  obtain ⟨e, he, hr⟩ := List.mem_filterMap.mp he'
  have hrem := TrackerEntry.afterGone_remains hr
  rw [foldl_endsFlush_barrier (fun f hmem hport ho hnone => ?_)]
  · exact hb
  · have hne : f ≠ e := fun hfe => by rw [hfe, hr] at hnone; cases hnone
    have hlive := TrackerEntry.isLiveFlush_of_gone hnone ho
    obtain ⟨i, hi, rfl⟩ := List.getElem_of_mem hmem
    obtain ⟨j, hj, rfl⟩ := List.getElem_of_mem he
    have hp := List.pairwise_iff_getElem.mp hpair
    have hports := hport.trans hrem.port
    rcases Nat.lt_trichotomy i j with hij | rfl | hij
    · exact hp i j hi hj hij ⟨hlive, hrem.flush hf, hports⟩
    · exact hne rfl
    · exact hp j i hj hi hij ⟨hrem.flush hf, hlive, hports.symm⟩

theorem State.FlushesApart.answerOwed (h : s.FlushesApart) (st : Status) (is : List (Fin 24)) :
    (Machine.answerOwed st is s).FlushesApart :=
  h.calm ⟨answerOwed_thins s st is, fun p => (answerOwed_answers s st is p).settled⟩ (answerOwed_keepsBarriers s st is)

theorem State.FlushesApart.removePwq (h : s.FlushesApart) (q : PwqEntry) (st : Status) (failed : Option RecordKind) :
    (s.removePwq q st failed).1.FlushesApart := by
  unfold State.removePwq
  have hflagged : (if failed.isSome = true then
      { s.withPwq (s.pwq.entries.filter (·.slot ≠ q.slot)) with
        ports := flagContributors q.contributors (s.withPwq (s.pwq.entries.filter (·.slot ≠ q.slot))).ports }
      else s.withPwq (s.pwq.entries.filter (·.slot ≠ q.slot))).FlushesApart := by
    split
    · exact h.calm ⟨.refl _, fun p => (flagContributors_answers s.ports q.contributors p).settled⟩ (flagContributors_keepsBarriers _ _)
    · exact h
  refine ((hflagged.answerOwed st q.owed).shrinkFlushes _).calm ⟨Thinned.map fun e => ?_, fun _ => .refl _⟩ (.refl _)
  split <;> exact ⟨rfl, rfl, rfl, id, id⟩

theorem State.FlushesApart.queueLost (h : s.FlushesApart) : s.queueLost.FlushesApart := by
  have hreads : s.readsLost.FlushesApart :=
    h.calm ⟨Thinned.filter _, fun p => (s.ports.completeAll_answers _ _ p).settled⟩ (PerPort.completeAll_keepsBarriers _ _ _)
  have hflagged : State.FlushesApart
      { s.readsLost.withPwq [] with ports := flagAll s.readsLost.pwq.entries s.readsLost.ports } :=
    hreads.calm ⟨.refl _, fun p => (flagAll_answers _ _ p).settled⟩ (flagAll_keepsBarriers _ _)
  exact (hflagged.answerOwed _ _).shrinkFlushes _

/-! ### Events -/

variable {e : Event} {p : Port} {r : Request}

theorem State.Staying.flushesApart (he : s.Staying e) (h : s.FlushesApart) : e.1.FlushesApart := by
  have hcalm := he.calm
  cases he with
  | granted d how w => exact h.calm hcalm (by rw [show (s.grant d how w).ports = s.ports from State.issue_ports d w]; exact .refl _)
  | readEnds d i n f r =>
    refine h.calm hcalm ?_
    unfold State.takeRead
    dsimp only
    split <;> exact PerPort.completeEntry_keepsBarriers _ f _ _
  | writeEnds d slot q r =>
    unfold State.takePwq
    dsimp only
    split
    · exact State.FlushesApart.removePwq (s := s.setDtag d .free) h q _ _
    · exact State.FlushesApart.removePwq (s := (s.setDtag d .free).countCorrected) h q _ _
    all_goals exact State.FlushesApart.removePwq (s := s.setDtag d .free) h q _ _
  | sweepEnds d row timer r =>
    unfold State.takeSweep
    dsimp only
    split <;> exact h
  | accessEnds i f c =>
    refine h.calm hcalm ?_
    unfold State.takeX
    dsimp only
    split <;> exact PerPort.completeEntry_keepsBarriers _ f _ _
  | writeExpires slot q d => exact State.FlushesApart.removePwq (s := s.setDtag d .stale) h q _ _
  | entryExpires i f tag =>
    refine h.calm hcalm ?_
    have hports : (s.staleTag f tag).ports = s.ports := by
      unfold State.staleTag
      split <;> rfl
    rw [← hports]
    exact PerPort.completeEntry_keepsBarriers _ f _ _
  | _ => exact h

theorem State.PastTags.barrier (h : s.PastTags p r) (hf : s.FlushesApart) : (s.ports.get p).barrier = false := by
  obtain hw | ⟨hb, -⟩ := h
  · exact hf.waitsFree p hw
  · exact hb

theorem State.FlushesApart.wait (h : s.FlushesApart) (g : Progress) (c : Option Classification)
    (hg : g.PastBarrier → (s.ports.get p).barrier = false) : (s.waitHead p g c).1.FlushesApart := by
  refine h.thinned (.refl _) (fun f _ _ hb => PerPort.keepsBarriers_mod s.ports p (fun h => h) f.port hb) fun q => ?_
  have hports : (s.waitHead p g c).1.ports.get q = if q = p then (s.ports.get p).wait g c else s.ports.get q :=
    PerPort.get_mod _ _ _ _
  rw [hports]
  split
  · exact hg
  · exact h.waitsFree q

theorem State.FlushesApart.leave (h : s.FlushesApart) (f : PortBlock → PortBlock)
    (hf : ∀ b : PortBlock, (f b).progress = .examine ∧ (f b).barrier = b.barrier) : (s.modPort p f).FlushesApart :=
  h.calm ⟨.refl _, PerPort.settled_mod (.inl (hf _).1)⟩ (PerPort.keepsBarriers_mod _ _ fun hb => by rwa [(hf _).2])

theorem State.HeadOutcome.flushesApart (ho : s.HeadOutcome p r e) (h : s.FlushesApart) : e.1.FlushesApart := by
  have hleft : ∀ t : State, t.ports = s.ports → (∀ q, (s.ports.get q).Settled ((t.modPort p (·.leave)).ports.get q))
      ∧ s.ports.KeepsBarriers (t.modPort p (·.leave)).ports := fun t ht => by
    rw [State.modPort_ports, ht]
    exact ⟨PerPort.settled_mod (.inl rfl), PerPort.keepsBarriers_mod _ _ fun hb => hb⟩
  cases ho with
  | nothing => exact h
  | answered st => exact h.leave _ fun b => by simp [PortBlock.answer, PortBlock.leave, PortBlock.complete_eq]
  | dropped kind c => exact h.leave _ fun b => ⟨rfl, rfl⟩
  | duplicate record => exact h.leave _ fun b => ⟨rfl, rfl⟩
  | parked g hg => exact h.wait g none fun hg' => absurd hg' hg
  | waits g c hpast => exact h.wait g c fun _ => hpast.barrier h
  | read a c hpast hroom hk =>
    unfold State.dispatchRead
    split
    · obtain ⟨hset, hb⟩ := hleft (s.addEntry p r.tag (.readM a r.length c.region c.generation) .ready) rfl
      exact h.newEntry rfl (fun hf => by simp [TrackerEntry.isLiveFlush] at hf) hset hb
    · next q _ =>
      dsimp only
      split
      · exact State.FlushesApart.leave (s := s.sealWhere (·.slot = q.slot)) h _ fun b => by simp [PortBlock.leave, PortBlock.complete_eq]
      · obtain ⟨hset, hb⟩ := hleft ((s.sealWhere (·.slot = q.slot)).addEntry p r.tag (.readM a r.length c.region c.generation)
          (.held q.slot)) rfl
        exact h.newEntry rfl (fun hf => by simp [TrackerEntry.isLiveFlush] at hf) hset hb
  | write a c hpast hroom hk =>
    unfold State.dispatchWrite
    dsimp only
    split
    · exact h.wait _ _ fun _ => hpast.barrier h
    · next t slot ht =>
      have hports := State.takeWrite_ports ht
      have htracker : t.tracker = s.tracker := by
        obtain ⟨_, rfl⟩ | ⟨_, rfl⟩ := State.takeWrite_cases ht <;> rfl
      by_cases ha : r.ack = true
      · rw [if_pos ha]
        obtain ⟨hset, hb⟩ := hleft (t.addEntry p r.tag (.ackM slot) .waiting) hports
        exact h.newEntry (e := ⟨t.freeIndex, p, r.tag, .ackM slot, .waiting, false, t.stamp⟩)
          (by rw [State.modPort_tracker, State.addEntry, htracker]) (fun hf => by simp [TrackerEntry.isLiveFlush] at hf) hset hb
      · rw [if_neg ha]
        obtain ⟨hset, hb⟩ := hleft t hports
        exact h.calm ⟨.of_eq (by rw [State.modPort_tracker, htracker]), hset⟩ hb
  | flush hpast hroom hk =>
    unfold State.dispatchFlush
    dsimp only
    split
    · exact h.leave _ fun b => by simp [PortBlock.reportFlag, PortBlock.leave, PortBlock.complete_eq]
    · refine h.newEntry rfl (fun _ => ⟨hpast.barrier h, by simp⟩) (PerPort.settled_mod (.inl rfl))
        (PerPort.keepsBarriers_mod _ _ fun _ => rfl)

theorem State.Advancing.flushesApart (ha : s.Advancing p e) (h : s.FlushesApart) : e.1.FlushesApart := by
  obtain rfl | ⟨r, rest, -, -, ho⟩ := ha
  · exact h
  · exact ho.flushesApart h

theorem State.Leaving.flushesApart (he : s.Leaving e) (h : s.FlushesApart) : e.1.FlushesApart := by
  cases he with
  | nothing => exact h
  | enqueued p r =>
    refine h.thinned (.refl _) (fun f _ _ hb => PerPort.keepsBarriers_mod s.ports p (fun h => h) f.port hb) fun q => ?_
    rw [State.modPort_ports, PerPort.get_mod]
    split
    · exact h.waitsFree p
    · exact h.waitsFree q
  | discarded p => exact h.calm (State.calm_modPort (.inr ⟨rfl, rfl, id⟩)) (PerPort.keepsBarriers_mod _ _ fun hb => hb)
  | advanced p _ ha => exact ha.flushesApart h
  | forwarded _ _ _ hc =>
    cases hc with
    | posted hc hr => exact h.calm ⟨.refl _, PerPort.settled_mod (.inl rfl)⟩ (PerPort.keepsBarriers_mod _ _ fun hb => hb)
    | @tracked p r c a x hc hposted hroom hx =>
      have hwork : ∀ st i n, TrackerEntry.isLiveFlush ⟨i, p, r.tag, xWork r c a, st, false, n⟩ = false := fun st i n => by
        unfold TrackerEntry.isLiveFlush xWork
        split <;> rfl
      exact h.newEntry rfl (fun hf => by rw [hwork] at hf; cases hf) (PerPort.settled_mod (.inl rfl))
        (PerPort.keepsBarriers_mod _ _ fun hb => hb)
  | lostM =>
    rw [State.loseM_eq]
    exact h.queueLost.calm (State.endWaitingAll_calm _ _ (s.queueLost, s.readsLost.discardPwq.2))
      (State.endWaitingAll_keepsBarriers _ _ (s.queueLost, s.readsLost.discardPwq.2))
  | lostX =>
    have hacc : s.accessesLost.FlushesApart :=
      h.calm ⟨Thinned.filter _, fun p => (s.ports.completeAll_answers _ _ p).settled⟩ (PerPort.completeAll_keepsBarriers _ _ _)
    rw [State.loseX_eq]
    exact hacc.calm (State.endWaitingAll_calm _ _ (s.accessesLost, [])) (State.endWaitingAll_keepsBarriers _ _ (s.accessesLost, []))

theorem State.ServiceOutcome.flushesApart {row : CtrlRow} {v : Served} (hv : s.ServiceOutcome p r row v) (h : s.FlushesApart) :
    v.state.FlushesApart := by
  cases hv with
  | disabled q => exact h.leave _ fun b => ⟨rfl, rfl⟩
  | enabled q => exact h.calm (State.calm_modPort (.inr ⟨rfl, rfl, id⟩)) (PerPort.keepsBarriers_mod _ _ fun hb => hb)
  | rights q rights _ _ e he =>
    exact he.flushesApart (h.calm (State.calm_modPort (.inr ⟨rfl, rfl, id⟩)) (PerPort.keepsBarriers_mod _ _ fun hb => hb))
  | warmReset =>
    refine ⟨by rw [serveWarmReset_tracker]; exact .nil, fun f hf => ?_, PerPort.all_iff_get.mpr fun q hw => ?_⟩
    · rw [serveWarmReset_tracker] at hf
      cases hf
    · rw [serveWarmReset_ports, PerPort.get_map]
      rfl
  | _ => exact h

theorem State.FlushesApart.handAll (h : s.FlushesApart) (rs : List ErrorRecord) : (s.handAll rs).FlushesApart :=
  h.calm (s.handAll_calm rs) (s.handAll_keepsBarriers rs)

theorem State.FlushesApart.close (h : e.1.FlushesApart) : (Event.close e).FlushesApart :=
  h.calm (Event.close_calm e) ((PerPort.returnCredits_keepsBarriers _).trans
    (State.handAll_keepsBarriers { e.1 with ports := e.1.ports.map PortBlock.returnCredits } e.2))

theorem State.FlushesApart.reply {v : Served} (h : v.state.FlushesApart) (p : Port) (tag : BitVec 8) : (v.reply p tag).1.FlushesApart :=
  h.calm (v.reply_calm p tag) (PerPort.keepsBarriers_mod _ _ fun hb => by
    rw [← PortBlock.complete, PortBlock.complete_eq]; exact hb)

theorem State.FlushesApart.linkLost (h : s.FlushesApart) (p : Port) : ((s.modPort p (·.linkLost)).orphanPort p).FlushesApart := by
  refine h.thinned (Thinned.map fun f => ?_) (fun f' hf' hl hb => ?_) fun q =>
    (h.waitsFree q).settled (PerPort.settled_mod (f := (·.linkLost)) (.inl rfl) q)
  · split
    · exact ⟨rfl, rfl, rfl, by simp, by simp [TrackerEntry.isLiveFlush]⟩
    · exact .refl f
  · obtain ⟨f, -, rfl⟩ := List.mem_map.mp hf'
    by_cases hp : f.port = p
    · simp [hp, TrackerEntry.isLiveFlush] at hl
    · rw [if_neg hp] at hb ⊢
      exact (congrArg PortBlock.barrier (PerPort.get_mod_other _ _ hp)).trans hb

theorem State.reset_flushesApart : State.reset.FlushesApart :=
  ⟨.nil, (fun _ hf => nomatch hf), PerPort.all_iff_get.mpr fun p _ => by cases p <;> rfl⟩

theorem exec_flushesApart {i : Instr} (h : s.FlushesApart) (hx : exec i s = .next t) : t.FlushesApart := by
  have hsel : ∀ p, (s.select p).FlushesApart := fun p =>
    h.calm ⟨.refl _, PerPort.settled_mod (.inl rfl)⟩ (PerPort.keepsBarriers_mod _ _ fun hb => hb)
  cases exec_effect hx with
  | reset => exact State.reset_flushesApart
  | linkReady p => exact h.leave _ fun b => ⟨rfl, rfl⟩
  | linkLost p _ rs => exact (h.linkLost p).handAll rs
  | unserved _ p r st hw => exact State.FlushesApart.close (State.FlushesApart.reply (v := { state := s.select p, status := st }) (hsel p) p r.tag)
  | served row p r v hw _ _ hv => exact State.FlushesApart.close ((hv.flushesApart (hsel p)).reply p r.tag)
  | leaving _ e he => exact (he.flushesApart h).close
  | staying _ e he => exact (he.flushesApart h).handAll e.2

theorem exec_workTied {i : Instr} (h : s.WorkTied) (hx : exec i s = .next t) : t.WorkTied := by
  obtain ⟨hl, hf⟩ := State.workTied_iff.mp h
  exact State.workTied_iff.mpr ⟨exec_linked hl hx, exec_flushesApart hf hx⟩

end

/-- Settles O58: each command keeps the references answered, and the FLUSHes of a port apart behind its barrier. -/
theorem everyStepKeepsWorkTied : Obligations.EveryStepKeepsWorkTied := fun _ _ hs h =>
  step_keeps (P := State.WorkTied) (fun _ _ hu => hu) (fun _ _ _ hu hx => exec_workTied hu hx) hs h

end Sys2Proof.Machine
end

section
/-! Resets, links that become ready or are lost, and the numbers taken next. -/

namespace Sys2Proof.Machine

/-! ### The machine and its resets -/

/-- Settles O1, by the definition of a step. -/
theorem stepCarriesOutTheFrontCommand : Obligations.StepCarriesOutTheFrontCommand :=
  ⟨fun _ _ _ => rfl, fun s h => by rw [step, h]⟩

theorem RegionTable.reset_entry (i : Fin 32) :
    RegionTable.reset.entries[i] = ⟨false, 0, 0, .refuse, .const false, .const false, false, 0⟩ :=
  Vector.getElem_replicate_fin _ i

/-- While the window has no pages and no region is valid, nothing but the default answers (R8). -/
theorem State.reset_classify (p : Port) (r : Request) :
    State.reset.classify p r = ⟨none, .default, false, 0, .noTarget, r.priv && p == .u0⟩ := by
  have hpriv : (State.reset.ports.get p).rights.privilege = (p == .u0) := by cases p <;> rfl
  have htakes : ∀ priv right, State.reset.window.takes (pageOf r.addr) priv right = false := fun priv right => by
    have hempty : State.reset.window.desc.contains (pageOf r.addr) = false := by simp [WindowDesc.contains, State.reset]
    simp [WindowCtl.takes, hempty]
  have hnone : State.reset.regionMap.active.matching (pageOf r.addr) = none := RegionTable.matching_eq_none.mpr fun i => by
    rw [show State.reset.regionMap.active = RegionTable.reset from rfl, RegionTable.reset_entry]
    rfl
  unfold State.classify
  dsimp only
  rw [htakes, hpriv, RegionMap.lookup_of_no_matching hnone]
  rfl

/-- Settles O3: the cold values are those of the reset state, whatever came before. -/
theorem coldResetSetsEveryBlock : Obligations.ColdResetSetsEveryBlock := by
  intro s
  refine ⟨_, rfl, rfl, fun p => ?_, rfl, fun p hp => ?_, fun i => ⟨RegionTable.reset_entry i, RegionTable.reset_entry i⟩, rfl, rfl, rfl,
    rfl, rfl, rfl, ⟨rfl, rfl, fun d => Vector.getElem_replicate_fin _ d, rfl, rfl, rfl, rfl, rfl⟩, rfl, rfl, rfl,
    ⟨rfl, rfl, fun x => Vector.getElem_replicate_fin _ x, rfl, rfl, rfl, rfl⟩, rfl, rfl, State.reset_classify⟩
  · cases p <;> exact ⟨rfl, rfl, rfl, rfl, rfl, rfl, rfl, rfl, rfl, rfl⟩
  · cases p with
    | u0 => exact absurd rfl hp
    | u1 | u2 | u3 => rfl

/-- Settles O4: each invariant holds where nothing is in flight, by the reset lemmas of its own statement. -/
theorem resetMeetsEveryInvariant : Obligations.ResetMeetsEveryInvariant :=
  ⟨State.reset_creditsAddUp, RegionTable.commitFailure_reset, by decide, State.reset_inRange.sweep, State.reset_inRange.sched,
    State.reset_inRange.ext, State.settingsInRange_iff.mpr ⟨State.reset_inRange.setup, State.reset_inRange.ports⟩,
    State.reset_tagsUnique, State.workTied_iff.mpr ⟨State.reset_linked, State.reset_flushesApart⟩⟩

/-! ### Links ready and lost (R40, R42, R43, R134, R156) -/

theorem exec_portLinkReady_of_down {s : State} {p : Port} (h : (s.ports.get p).state = .down) :
    exec (.portLinkReady p) s = .next (s.modPort p (·.linkReady)) := if_pos h

theorem exec_portLinkReady_of_not_down {s : State} {p : Port} (h : (s.ports.get p).state ≠ .down) :
    exec (.portLinkReady p) s = .next s := if_neg h

theorem exec_portLinkLost_of_down {s : State} {p : Port} (h : (s.ports.get p).state = .down) :
    exec (.portLinkLost p) s = .next s := if_pos h

theorem exec_portLinkLost_of_not_down {s : State} {p : Port} (h : (s.ports.get p).state ≠ .down) :
    exec (.portLinkLost p) s
      = .next (Event.record ((s.modPort p (·.linkLost)).orphanPort p, [{ kind := .linkLost, port := some p }])) := if_neg h

/-- Settles O5, by the two cases of each link's readiness. -/
theorem readyLinksCarryPackets : Obligations.ReadyLinksCarryPackets :=
  ⟨fun _ _ h => exec_portLinkReady_of_down h, fun _ _ h => exec_portLinkReady_of_not_down h, fun _ => rfl, fun _ => rfl⟩

theorem State.orphanPort_entries (s : State) (p : Port) :
    (s.orphanPort p).tracker.entries = s.tracker.entries.map fun e => { e with orphan := e.orphan || e.port == p } := by
  refine List.map_congr_left fun e _ => ?_
  by_cases hp : e.port = p
  · simp [hp]
  · rw [if_neg hp, beq_eq_false_iff_ne.mpr hp, Bool.or_false]

/-- Settles O6: the block loses all but its rights and discarded count, and the entries of the port become orphans. -/
theorem lostPortLinkEmptiesThePort : Obligations.LostPortLinkEmptiesThePort := by
  refine ⟨fun p s h => ?_, fun p s h => exec_portLinkLost_of_down h⟩
  rw [exec_portLinkLost_of_not_down h]
  have htracker : ((s.modPort p (·.linkLost)).orphanPort p).tracker
      = { s.tracker with entries := s.tracker.entries.map fun e => { e with orphan := e.orphan || e.port == p } } :=
    congrArg (fun es => ({ s.tracker with entries := es } : Tracker)) (State.orphanPort_entries (s.modPort p (·.linkLost)) p)
  change Host.Outcome.next (State.hand { s with
    ports := (s.modPort p (·.linkLost)).ports, tracker := ((s.modPort p (·.linkLost)).orphanPort p).tracker } _) = _
  rw [htracker]
  rfl

/-! ### The numbers taken next (R71, R96, R119, R151) -/

/-- Every number below the first that a search of the range finds free is held. -/
theorem exists_of_lt_find? {α : Type} {n : Nat} {as : List α} {num : α → Fin n} {i j : Fin n}
    (h : (List.finRange n).find? (fun i => as.all (num · ≠ i)) = some i) (hj : j < i) : ∃ a ∈ as, num a = j := by
  simpa using (find?_finRange_eq_some.mp h).2 j hj

theorem State.freeXtag_eq_some {s : State} {x : Fin 8} :
    s.freeXtag = some x ↔ s.ext.xtags[x] = .free ∧ ∀ y : Fin 8, y < x → s.ext.xtags[y] ≠ .free := by
  simp [State.freeXtag, find?_finRange_eq_some]

/-- Settles O51: each search finds the first number that nothing holds. -/
theorem theLowestFreeNumberIsTaken : Obligations.TheLowestFreeNumberIsTaken := by
  refine fun s => ⟨fun h => ⟨State.freeIndex_ne h, fun i hi => ?_⟩, fun h => ⟨State.freeSlot_ne h, fun i hi => ?_⟩,
    fun d => State.freeDtag_eq_some, fun x => State.freeXtag_eq_some⟩
  · obtain ⟨k, hk⟩ := exists_find?_finRange s.tracker.entries (·.index) h
    rw [State.freeIndex, hk] at hi
    exact exists_of_lt_find? hk hi
  · obtain ⟨k, hk⟩ := exists_find?_finRange s.pwq.entries (·.slot) h
    rw [State.freeSlot, hk] at hi
    exact exists_of_lt_find? hk hi

end Sys2Proof.Machine
end

section
/-! Packets that arrive and timers that expire: what each of them makes of the state, by the cases that the model tests. -/

namespace Sys2Proof.Machine

/-! ### Requests from upstream (R34, R39 to R41, R45) -/

section
variable {s : State} {p : Port} {r : Request} {pkt : Packet}

theorem exec_arrival_of_request (h : pkt.isRequest = true) :
    exec (.arrival p pkt) s = .next (Event.close (s.arrive p (Request.ofPacket pkt))) :=
  congrArg (fun e : Event => Host.Outcome.next (Event.close e)) (if_pos h)

theorem State.arrive_of_down (h : (s.ports.get p).state = .down) : s.arrive p r = (s, []) := by
  simp only [State.arrive, h]

theorem State.arrive_of_disabled (h : (s.ports.get p).state = .disabled) :
    s.arrive p r = (s.modPort p (·.discardArrival), []) := by
  simp only [State.arrive, h]

theorem State.arrive_of_room (h : (s.ports.get p).state = .up) (hlen : (s.ports.get p).ingress.length < 8) :
    s.arrive p r = (s.modPort p (·.enqueue r), []) := by
  simp only [State.arrive, h]
  exact if_pos hlen

theorem State.arrive_of_full (h : (s.ports.get p).state = .up) (hlen : (s.ports.get p).ingress.length = 8) :
    s.arrive p r = (s, [overrunRecord p r]) := by
  simp only [State.arrive, h]
  exact if_neg (by simp [Config.ingressDepth, hlen])

/-- The tag and address of an OVERRUN record, as the requirement words them (R41). -/
theorem overrunRecord_eq (p : Port) (r : Request) :
    overrunRecord p r =
      { kind := .overrun, port := some p
        tag := if r.posted = false ∧ r.tag.toNat ≤ 15 then some r.tag else none
        addr := if r.kind = .read ∨ r.kind = .write then some (.bridge r.addr) else none } := by
  simp [overrunRecord, ReqKind.isAccess_iff]

/-- An arrival discarded at a DISABLED port: the credit that it took comes back at once (R45). -/
theorem PortBlock.discardArrival_returnCredits {b : PortBlock} (ho : b.owed = 0) (hs : b.state = .disabled) (hc : 0 < b.credits) :
    b.discardArrival.returnCredits = { b with
      discarded := if b.discarded < 65535 then b.discarded + 1 else b.discarded, out := b.out ++ [creditPacket 1] } := by
  rw [PortBlock.returnCredits_of_owed (by simp [PortBlock.discardArrival]) (by simp [PortBlock.discardArrival, hs])]
  simp [PortBlock.discardArrival, saturate, ho, Nat.sub_add_cancel hc]

end

/-- Settles O9: the port's state and room decide, and the credits of a port that is not DOWN add up. -/
theorem arrivalsJoinTheQueueOrAreDropped : Obligations.ArrivalsJoinTheQueueOrAreDropped := by
  intro p pkt s hw hc b r
  obtain ⟨ho, -, hsum, hempty⟩ := PerPort.all_iff_get.mp hc p
  have hn := hc.nothingOwed
  rw [exec_arrival_of_request hw]
  refine ⟨fun hup hlen => congrArg Host.Outcome.next ?joins, fun hup hlen => congrArg Host.Outcome.next ?overruns,
    fun hd => congrArg Host.Outcome.next ?discarded⟩
  case joins =>
    rw [State.arrive_of_room hup hlen]
    exact Event.close_modPort (g := (·.enqueue r)) hn rfl (PortBlock.returnCredits_of_owed_zero ho)
  case overruns =>
    rw [State.arrive_of_full hup hlen, Event.close_of_nothingOwed hn, overrunRecord_eq]
    rfl
  case discarded =>
    have hcredits : 0 < (s.ports.get p).credits := by
      have := hsum (by simp [b, hd])
      rw [hempty hd, List.length_nil] at this
      omega
    rw [State.arrive_of_disabled hd, Event.close_port (p := p) hn rfl,
      PortBlock.discardArrival_returnCredits ho hd hcredits]
    rfl

/-! ### From M (R34, R37, R39, R105 to R107, R120, R143) -/

section
variable {s : State} {pkt : Packet} {r : MemResp} {e : TrackerEntry} {i : Fin 24} {n : Nat} {slot : Fin 16} {row : BitVec 20}
  {timer : Nat}

theorem State.fromM_of_down (h : s.sched.link = .down) : s.fromM pkt = (s, []) := if_pos h

theorem State.fromM_of_response (h : s.sched.link = .up) (hk : pkt.isMemResp = true) :
    s.fromM pkt = s.judgeM (MemResp.ofPacket pkt) := by
  simp [State.fromM, h, hk]

theorem State.fromM_of_other (h : s.sched.link = .up) (hk : pkt.isMemResp = false) :
    s.fromM pkt = (s, [unknownResponse .m none]) := by
  simp [State.fromM, h, hk]

theorem MemResp.carries_eq_true : r.carries n = true ↔ r.length = n ∧ r.data.length = n := by
  simp [MemResp.carries]

theorem MemResult.ok_eq_true {x : MemResult} : x.ok = true ↔ x = .good ∨ x = .corrected := by
  cases x <;> simp [MemResult.ok]

theorem State.judgeM_of_old (h : r.epoch ≠ s.sched.epoch) : s.judgeM r = (s, []) := if_pos h

theorem State.judgeM_of_free (h : r.epoch = s.sched.epoch) (hd : s.sched.dtags[r.dtag] = .free) :
    s.judgeM r = s.unknownM r := by
  simp only [State.judgeM, h, hd, ne_eq, not_true, if_false]

theorem State.judgeM_of_stale (h : r.epoch = s.sched.epoch) (hd : s.sched.dtags[r.dtag] = .stale) :
    s.judgeM r = (s.lateM r.dtag, []) := by
  simp only [State.judgeM, h, hd, ne_eq, not_true, if_false]

theorem State.judgeM_of_read (h : r.epoch = s.sched.epoch) (hd : s.sched.dtags[r.dtag] = .read i n)
    (hc : r.carries (if r.result.ok then n else 0) = true) (he : s.entryAt i = some e) :
    s.judgeM r = s.takeRead r.dtag e r := by
  simp only [State.judgeM, h, hd, he, hc, ne_eq, not_true, if_false, if_true]

theorem State.judgeM_of_read_shape (h : r.epoch = s.sched.epoch) (hd : s.sched.dtags[r.dtag] = .read i n)
    (hc : ¬r.carries (if r.result.ok then n else 0) = true) : s.judgeM r = s.unknownM r := by
  simp only [State.judgeM, h, hd, hc, ne_eq, not_true, if_false]
  cases s.entryAt i <;> rfl

theorem State.judgeM_of_write_shape (h : r.epoch = s.sched.epoch) (hd : s.sched.dtags[r.dtag] = .write slot)
    (hc : ¬r.carries 0 = true) : s.judgeM r = s.unknownM r := by
  simp only [State.judgeM, h, hd, hc, ne_eq, not_true, if_false]
  cases s.pwqAt slot <;> rfl

theorem State.judgeM_of_sweep (h : r.epoch = s.sched.epoch) (hd : s.sched.dtags[r.dtag] = .sweep row timer)
    (hc : r.carries 0 = true) : s.judgeM r = s.takeSweep r.dtag row r := by
  simp only [State.judgeM, h, hd, hc, ne_eq, not_true, if_false, if_true]

theorem State.judgeM_of_sweep_shape (h : r.epoch = s.sched.epoch) (hd : s.sched.dtags[r.dtag] = .sweep row timer)
    (hc : ¬r.carries 0 = true) : s.judgeM r = s.unknownM r := by
  simp only [State.judgeM, h, hd, hc, ne_eq, not_true, if_false, Bool.false_eq_true]

theorem exec_memResp_of_response (h : s.sched.link = .up) (hk : pkt.isMemResp = true) :
    exec (.memResp pkt) s = .next (Event.record (s.judgeM (MemResp.ofPacket pkt))) :=
  congrArg (fun e : Event => Host.Outcome.next (Event.record e)) (State.fromM_of_response h hk)

/-- An entry that ends: it is answered while it is live, and leaves the tracker (R96, R109). -/
theorem State.endEntry_eq (s : State) (e : TrackerEntry) (st : Status) (data : List Byte) :
    s.endEntry e st data = { s with tracker := s.tracker.without e, ports := s.answered e st data } := by
  rw [State.endEntry, State.completeEntry_eq_answered]
  rfl

theorem TrackerEntry.failure_of_readM {a : BitVec 36} {g : RegionIndex} {gen : BitVec 8} (hw : e.work = .readM a n g gen)
    (onRead onWrite : RecordKind) :
    e.failure onRead onWrite =
      [{ kind := onRead, port := some e.port, tag := some e.tag, addr := some (.memory a), target := some .m
         region := some (g, gen) }] := by
  rw [TrackerEntry.failure, hw]

theorem TrackerEntry.failure_of_readX {a : BitVec 40} {g : RegionIndex} {gen : BitVec 8} (hw : e.work = .readX a n g gen)
    (onRead onWrite : RecordKind) :
    e.failure onRead onWrite =
      [{ kind := onRead, port := some e.port, tag := some e.tag, addr := some (.extension a), target := some .x
         region := some (g, gen) }] := by
  rw [TrackerEntry.failure, hw]

theorem TrackerEntry.failure_of_ackX {a : BitVec 40} {g : RegionIndex} {gen : BitVec 8} (hw : e.work = .ackX a g gen)
    (onRead onWrite : RecordKind) :
    e.failure onRead onWrite =
      [{ kind := onWrite, port := some e.port, tag := some e.tag, addr := some (.extension a), target := some .x
         region := some (g, gen) }] := by
  rw [TrackerEntry.failure, hw]

end

/-- Settles O29: the response has the shape that its result calls for, so the read takes it. -/
theorem memoryResponsesEndReads : Obligations.MemoryResponsesEndReads := by
  intro pkt s i e n m a g gen hw hl resp after hep hd he hwork
  have hexec : resp.carries (if resp.result.ok then n else 0) = true →
      exec (.memResp pkt) s = .next (Event.record (s.takeRead resp.dtag e resp)) := fun hc => by
    rw [exec_memResp_of_response hl hw, State.judgeM_of_read hep hd hc he]
  refine ⟨fun hr hlen hdata => ?_, fun hr hlen hdata => ?_, fun hr hlen hdata => ?_⟩
  · rw [hexec (by rw [hr]; exact MemResp.carries_eq_true.mpr ⟨hlen, hdata⟩), State.takeRead, hr]
    simp only [State.endEntry_eq]
    rfl
  · rw [hexec (by rw [hr]; exact MemResp.carries_eq_true.mpr ⟨hlen, hdata⟩), State.takeRead, hr]
    simp only [State.endEntry_eq]
    rfl
  · have hbad : resp.result.ok = false := by obtain hr | hr := hr <;> rw [hr] <;> rfl
    have htake : s.takeRead resp.dtag e resp
        = ((s.setDtag resp.dtag .free).endEntry e .targetError [], e.failure .readFailed .writeFailed) := by
      obtain hr | hr := hr <;> rw [State.takeRead, hr]
    rw [hexec (by rw [hbad]; exact MemResp.carries_eq_true.mpr ⟨hlen, hdata⟩), htake, State.endEntry_eq,
      TrackerEntry.failure_of_readM hwork]
    rfl

/-- Settles O30: the response carries nothing, so the sweep takes it, by its result. -/
theorem memoryResponsesEndSweeps : Obligations.MemoryResponsesEndSweeps := by
  intro pkt s row timer hw hl resp after record hep hd hlen hdata
  rw [exec_memResp_of_response hl hw, State.judgeM_of_sweep hep hd (MemResp.carries_eq_true.mpr ⟨hlen, hdata⟩), State.takeSweep]
  refine ⟨fun hr => ?_, fun hr => ?_, fun hr => ?_, fun hr => ?_⟩ <;> (rw [hr]; rfl)

/-- Settles O31: the epoch, then the dtag's state, then the shape decide. -/
theorem otherMemoryResponsesAreDiscarded : Obligations.OtherMemoryResponsesAreDiscarded := by
  intro pkt s hw resp d unknown carries
  refine ⟨fun hl => congrArg (fun e : Event => Host.Outcome.next (Event.record e)) (State.fromM_of_down hl), fun hl => ?_⟩
  rw [exec_memResp_of_response hl hw]
  refine ⟨fun hep => ?old, fun hep => ⟨fun hd => ?free, fun hd => ?late, fun i n hd hc => ?read, fun slot hd hc => ?write,
    fun row timer hd hc => ?sweep⟩⟩
  case old => rw [State.judgeM_of_old hep]; rfl
  case free => rw [State.judgeM_of_free hep hd]; rfl
  case late => rw [State.judgeM_of_stale hep hd]; rfl
  case read =>
    have hshape : ¬resp.carries (if resp.result.ok then n else 0) = true := by
      rw [MemResp.carries_eq_true]
      simp only [MemResult.ok_eq_true]
      exact hc
    rw [State.judgeM_of_read_shape hep hd hshape]
    rfl
  case write => rw [State.judgeM_of_write_shape hep hd (mt MemResp.carries_eq_true.mp hc)]; rfl
  case sweep => rw [State.judgeM_of_sweep_shape hep hd (mt MemResp.carries_eq_true.mp hc)]; rfl

/-! ### From X (R34, R38, R39, R105 to R107, R148, R154) -/

section
variable {s : State} {pkt : Packet} {c : XCompletion} {e : TrackerEntry} {i : Fin 24} {n : Nat}

theorem State.fromX_of_down (h : s.ext.link = .down) : s.fromX pkt = (s, []) := if_pos h

theorem State.fromX_of_completion (h : s.ext.link = .up) (hk : pkt.isCompletion = true) :
    s.fromX pkt = s.judgeX (XCompletion.ofPacket pkt) := by
  simp [State.fromX, h, hk]

theorem State.fromX_of_credit (h : s.ext.link = .up) (hk : pkt.isCredit = true) :
    s.fromX pkt = s.creditX (xCreditCount pkt) := by
  have hcode : pkt.kindCode = 9 := by simpa [Packet.isCredit] using hk
  have hno : pkt.isCompletion = false := by simp [Packet.isCompletion, hcode]
  simp [State.fromX, h, hk, hno]

theorem State.fromX_of_other (h : s.ext.link = .up) (hk : pkt.isCompletion = false) (hc : pkt.isCredit = false) :
    s.fromX pkt = (s, [unknownResponse .x none]) := by
  simp [State.fromX, h, hk, hc]

theorem XCompletion.carries_eq_true : c.carries n = true ↔ c.length = n ∧ c.data.length = n := by
  simp [XCompletion.carries]

/-- A tag field of 0 to 15 names its xtag and epoch (R154). -/
theorem XCompletion.tag_names {x : Fin 8} {ep : Bool} (h : c.tag = x.val + 8 * ep.toNat) :
    ¬15 < c.tag ∧ c.xtag = x ∧ c.epoch = ep := by
  have hx := x.isLt
  cases ep
  · rw [Bool.toNat_false, Nat.mul_zero, Nat.add_zero] at h
    refine ⟨by omega, Fin.ext (by simp only [XCompletion.xtag]; omega), ?_⟩
    simp [XCompletion.epoch, show c.tag / 8 = 0 by omega]
  · rw [Bool.toNat_true, Nat.mul_one] at h
    refine ⟨by omega, Fin.ext (by simp only [XCompletion.xtag]; omega), ?_⟩
    simp [XCompletion.epoch, show c.tag / 8 = 1 by omega]

theorem State.judgeX_of_high (h : 15 < c.tag) : s.judgeX c = (s, [unknownResponse .x none]) := if_pos h

theorem State.judgeX_of_old (h : ¬15 < c.tag) (hep : c.epoch ≠ s.ext.epoch) : s.judgeX c = (s, []) := by
  rw [State.judgeX, if_neg h, if_pos hep]

theorem State.judgeX_of_free (h : ¬15 < c.tag) (hep : c.epoch = s.ext.epoch) (hx : s.ext.xtags[c.xtag] = .free) :
    s.judgeX c = s.unknownX c := by
  simp only [State.judgeX, h, hep, hx, ne_eq, not_true, if_false]

theorem State.judgeX_of_stale (h : ¬15 < c.tag) (hep : c.epoch = s.ext.epoch) (hx : s.ext.xtags[c.xtag] = .stale) :
    s.judgeX c = (s.lateX c.xtag, []) := by
  simp only [State.judgeX, h, hep, hx, ne_eq, not_true, if_false]

theorem State.judgeX_of_entry (h : ¬15 < c.tag) (hep : c.epoch = s.ext.epoch) (hx : s.ext.xtags[c.xtag] = .allocated i)
    (he : s.entryAt i = some e) :
    s.judgeX c = if c.carries (e.xLength c) = true then s.takeX e c else s.unknownX c := by
  simp only [State.judgeX, h, hep, hx, he, ne_eq, not_true, if_false]

theorem State.takeX_of_ok (h : c.status = 0) :
    s.takeX e c = ((s.setXtag c.xtag .free).endEntry e .ok c.data, []) := if_pos h

theorem State.takeX_of_error (h : c.status ≠ 0) :
    s.takeX e c = ((s.setXtag c.xtag .free).endEntry e .targetError [], e.failure .readFailed .writeFailed) := if_neg h

theorem TrackerEntry.xLength_of_readX {a : BitVec 40} {g : RegionIndex} {gen : BitVec 8} (hw : e.work = .readX a n g gen)
    (c : XCompletion) : e.xLength c = if c.status = 0 then n else 0 := by
  rw [TrackerEntry.xLength, hw]

theorem TrackerEntry.xLength_of_ackX {a : BitVec 40} {g : RegionIndex} {gen : BitVec 8} (hw : e.work = .ackX a g gen)
    (c : XCompletion) : e.xLength c = 0 := by
  rw [TrackerEntry.xLength, hw]

/-- A completion of the right shape for its entry, as a command: the entry ends by its status (R106). -/
theorem State.record_judgeX_of_ok (h : ¬15 < c.tag) (hep : c.epoch = s.ext.epoch) (hx : s.ext.xtags[c.xtag] = .allocated i)
    (he : s.entryAt i = some e) (hst : c.status = 0) (hc : c.length = e.xLength c ∧ c.data.length = e.xLength c) :
    Event.record (s.judgeX c) = { s with
      ext := { s.ext with xtags := s.ext.xtags.set c.xtag .free }
      tracker := s.tracker.without e, ports := s.answered e .ok c.data } := by
  rw [State.judgeX_of_entry h hep hx he, if_pos (XCompletion.carries_eq_true.mpr hc), State.takeX_of_ok hst, State.endEntry_eq]
  rfl

theorem State.record_judgeX_of_error (h : ¬15 < c.tag) (hep : c.epoch = s.ext.epoch)
    (hx : s.ext.xtags[c.xtag] = .allocated i) (he : s.entryAt i = some e) (hst : c.status ≠ 0)
    (hc : c.length = e.xLength c ∧ c.data.length = e.xLength c) :
    Event.record (s.judgeX c) = State.handAll { s with
      ext := { s.ext with xtags := s.ext.xtags.set c.xtag .free }
      tracker := s.tracker.without e, ports := s.answered e .targetError [] } (e.failure .readFailed .writeFailed) := by
  rw [State.judgeX_of_entry h hep hx he, if_pos (XCompletion.carries_eq_true.mpr hc), State.takeX_of_error hst,
    State.endEntry_eq]
  rfl

theorem State.record_judgeX_of_shape (h : ¬15 < c.tag) (hep : c.epoch = s.ext.epoch)
    (hx : s.ext.xtags[c.xtag] = .allocated i) (he : s.entryAt i = some e)
    (hc : ¬(c.length = e.xLength c ∧ c.data.length = e.xLength c)) :
    Event.record (s.judgeX c) = s.hand (unknownResponse .x (some (BitVec.ofNat 8 c.xtag.val))) := by
  rw [State.judgeX_of_entry h hep hx he, if_neg (mt XCompletion.carries_eq_true.mp hc)]
  rfl

end

/-- Settles O25: tag field, epoch and xtag are judged in this order, then the entry by its kind. -/
theorem extensionCompletionsEndTheirEntryOrAreDiscarded : Obligations.ExtensionCompletionsEndTheirEntryOrAreDiscarded := by
  refine ⟨fun pkt s hw hl => ?_, fun pkt s _ hl =>
    congrArg (fun e : Event => Host.Outcome.next (Event.record e)) (State.fromX_of_down hl)⟩
  intro tag status carries free unknown
  have hexec : exec (.xCompletion pkt) s = .next (Event.record (s.judgeX (XCompletion.ofPacket pkt))) :=
    congrArg (fun e : Event => Host.Outcome.next (Event.record e)) (State.fromX_of_completion hl hw)
  rw [hexec]
  refine ⟨fun h => by rw [State.judgeX_of_high h]; rfl, fun x ep htag => ?_⟩
  obtain ⟨hlow, rfl, rfl⟩ := XCompletion.tag_names (c := XCompletion.ofPacket pkt) htag
  refine ⟨fun hold => by rw [State.judgeX_of_old hlow hold]; rfl, fun hep => ⟨fun hx => ?_, fun hx => ?_, ?_⟩⟩
  · rw [State.judgeX_of_free hlow hep hx]; rfl
  · rw [State.judgeX_of_stale hlow hep hx]; rfl
  intro i e hx he
  refine ⟨fun a n g gen hwork => ?_, fun a g gen hwork => ?_⟩
  · have hlen : e.xLength (XCompletion.ofPacket pkt) = if status = 0 then n else 0 := TrackerEntry.xLength_of_readX hwork _
    refine ⟨fun hst hc => ?_, fun hst hc => ?_, fun hc => ?_⟩
    · rw [State.record_judgeX_of_ok hlow hep hx he hst (by rw [hlen, if_pos hst]; exact hc)]
      rfl
    · rw [State.record_judgeX_of_error hlow hep hx he hst (by rw [hlen, if_neg hst]; exact hc),
        TrackerEntry.failure_of_readX hwork]
      rfl
    · rw [State.record_judgeX_of_shape hlow hep hx he (by rw [hlen]; exact hc)]
      rfl
  · have hlen := TrackerEntry.xLength_of_ackX hwork (XCompletion.ofPacket pkt)
    refine ⟨fun hst hc => ?_, fun hst hc => ?_, fun hc => ?_⟩
    · rw [State.record_judgeX_of_ok hlow hep hx he hst (by rw [hlen]; exact hc)]
      rfl
    · rw [State.record_judgeX_of_error hlow hep hx he hst (by rw [hlen]; exact hc), TrackerEntry.failure_of_ackX hwork]
      rfl
    · rw [State.record_judgeX_of_shape hlow hep hx he (by rw [hlen]; exact hc)]
      rfl

/-- Settles O24: the count alone decides. -/
theorem extensionCreditsAddUpToEight : Obligations.ExtensionCreditsAddUpToEight := by
  intro pkt s hw n
  have hexec (hl : s.ext.link = .up) : exec (.xCredit pkt) s = .next (Event.record (s.creditX n)) :=
    congrArg (fun e : Event => Host.Outcome.next (Event.record e)) (State.fromX_of_credit hl hw)
  refine ⟨fun hl h1 h8 => ?_, fun hl hn => ?_, fun hl =>
    congrArg (fun e : Event => Host.Outcome.next (Event.record e)) (State.fromX_of_down hl)⟩
  · rw [hexec hl, State.creditX, if_pos ⟨h1, h8⟩]
    rfl
  · rw [hexec hl, State.creditX, if_neg (by omega)]
    rfl

/-- Settles O10: the packet is of no kind that its link takes, so the last branch of the link's judgement is taken. -/
theorem packetsOutOfPlaceAreDiscarded : Obligations.PacketsOutOfPlaceAreDiscarded := by
  refine ⟨fun l pkt s hw hn => ?_, fun p pkt s hw hn hd => ?_⟩
  · replace hw : l.carries pkt = false := by simpa [Instr.wellFormed] using hw
    have hrecord {u : State} {rs : List ErrorRecord} {e : Event} (he : e = (u, rs)) :
        Host.Outcome.next (Event.record e) = (Host.Outcome.next (u.handAll rs) : Host.Outcome State Fault Refusal) := by
      rw [he]; rfl
    cases l with
    | up p =>
      have hup : s.fromUpstream p pkt = (s, []) := if_neg (by simpa [Link.carries] using hw)
      change Host.Outcome.next (Event.close (s.fromUpstream p pkt)) = _
      rw [hup, Event.close_of_nothingOwed hn]
      rfl
    | m => exact ⟨fun hl => hrecord (State.fromM_of_other hl hw), fun hl => hrecord (State.fromM_of_down hl)⟩
    | x =>
      obtain ⟨hk, hc⟩ : pkt.isCompletion = false ∧ pkt.isCredit = false := by simpa [Link.carries] using hw
      exact ⟨fun hl => hrecord (State.fromX_of_other hl hk hc), fun hl => hrecord (State.fromX_of_down hl)⟩
  · rw [exec_arrival_of_request hw, State.arrive_of_down hd, Event.close_of_nothingOwed hn]
    rfl

/-! ### Timers (R76, R77, R85, R104, R121, R137, R144, R155) -/

/-- Sealing leaves a queue without an OPEN entry as it is (R76). -/
theorem map_seal_of_not_open {es : List PwqEntry} (h : ∀ q ∈ es, q.isOpen = false) : es.map PwqEntry.seal = es := by
  refine (List.map_congr_left fun q hq => ?_).trans (List.map_id es)
  obtain ⟨timer, ht, -⟩ | ⟨-, hseal⟩ := q.seal_cases
  · have hclosed := h q hq
    simp [PwqEntry.isOpen, ht] at hclosed
  · exact hseal

/-- Settles O34: only the tail of an ordered queue may be OPEN. -/
theorem sealTimerSealsTheOpenTail : Obligations.SealTimerSealsTheOpenTail := by
  intro s hq
  have hexec : exec .sealTimerExpiry s = .next (s.withPwq (s.pwq.entries.map PwqEntry.seal)) := by
    simp [exec, execSealTimerExpiry, State.sealWhere]
  rw [hexec]
  refine ⟨fun older q timer he hopen => ?_, fun hclosed => ?_⟩
  · obtain ⟨-, hpair, -⟩ := hq
    rw [he, List.pairwise_append] at hpair
    obtain ⟨-, -, hbefore⟩ := hpair
    have holder : ∀ f ∈ older, f.isOpen = false := fun f hf => (hbefore f hf q (List.mem_singleton_self q)).2.1
    have hseal : q.seal = { q with state := .sealed } := by rw [PwqEntry.seal, hopen]
    rw [he, List.map_append, map_seal_of_not_open holder, List.map_singleton, hseal]
    rfl
  · rw [map_seal_of_not_open hclosed]
    rfl

section
variable {s : State} {i : Fin 24} {e : TrackerEntry} {tag : Fin 8} {ep : Bool} {timer : Nat}

theorem State.expireEntry_of_issued (he : s.entryAt i = some e) (hs : e.state = .issued tag ep timer) :
    s.expireEntry i = ((s.staleTag e tag).endEntry e .timeout [], e.failure .readTimeout .writeTimeout) := by
  simp only [State.expireEntry, he, hs]

theorem State.staleTag_of_readM {a : BitVec 36} {n : Nat} {g : RegionIndex} {gen : BitVec 8} (hw : e.work = .readM a n g gen) :
    s.staleTag e tag = s.setDtag tag .stale := by
  simp [State.staleTag, TrackerEntry.isOnX, hw]

theorem State.staleTag_of_onX (h : e.isOnX = true) : s.staleTag e tag = s.setXtag tag .stale := if_pos h

theorem State.expireEntry_of_not_issued
    (h : ∀ e ∈ s.tracker.entries, e.index = i → ∀ tag ep timer, e.state ≠ .issued tag ep timer) :
    s.expireEntry i = (s, []) := by
  unfold State.expireEntry
  split
  · next e he =>
    obtain ⟨hi, hmem⟩ := State.entryAt_eq_some he
    split
    · next tag ep timer hs => exact absurd hs (h e hmem hi tag ep timer)
    all_goals rfl
  · rfl

theorem State.expirePwq_of_not_issued {slot : Fin 16} (h : ∀ q ∈ s.pwq.entries, q.slot = slot → q.isIssued = false) :
    s.expirePwq slot = (s, []) := by
  unfold State.expirePwq
  split
  · next q hq =>
    obtain ⟨hslot, hmem⟩ := State.pwqAt_eq_some hq
    split
    · next d timer hs =>
      have hclosed := h q hmem hslot
      simp [PwqEntry.isIssued, hs] at hclosed
    all_goals rfl
  · rfl

end

/-- Settles O35: an ISSUED entry ends by its kind, and nothing happens to what is not ISSUED or does not run. -/
theorem responseTimersEndIssuedWork : Obligations.ResponseTimersEndIssuedWork := by
  have hrecord {c : Instr} {s : State} {e e' : Event} (hc : exec c s = .next (Event.record e)) (he : e = e') :
      exec c s = .next (Event.record e') := he ▸ hc
  refine ⟨fun s i e tag ep timer he hs => ?_, fun s i h => hrecord rfl (State.expireEntry_of_not_issued h),
    fun s slot h => hrecord rfl (State.expirePwq_of_not_issued h), fun s d row timer hd => ?_, fun s d hd => ?_, fun s ht => ?_⟩
  · intro after record
    have hexec : exec (.responseTimerExpiry i) s
        = .next (Event.record ((s.staleTag e tag).endEntry e .timeout [], e.failure .readTimeout .writeTimeout)) :=
      hrecord rfl (State.expireEntry_of_issued he hs)
    rw [hexec, State.endEntry_eq]
    refine ⟨fun a n g gen hw => ?_, fun a n g gen hw => ?_, fun a g gen hw => ?_⟩
    · rw [State.staleTag_of_readM hw, TrackerEntry.failure_of_readM hw]
      rfl
    · rw [State.staleTag_of_onX (by simp [TrackerEntry.isOnX, hw]), TrackerEntry.failure_of_readX hw]
      rfl
    · rw [State.staleTag_of_onX (by simp [TrackerEntry.isOnX, hw]), TrackerEntry.failure_of_ackX hw]
      rfl
  · have hexp : s.expireSweep d = (s.setDtag d .stale, [sweepRecord .sweepTimeout row]) := by
      simp only [State.expireSweep, hd]
    exact hrecord rfl hexp
  · have hexp : s.expireSweep d = (s, []) := by
      unfold State.expireSweep
      split
      · next row timer h => exact absurd h (hd row timer)
      all_goals rfl
    exact hrecord rfl hexp
  · have hexp : s.expireSweepTimer = (s, []) := by simp [State.expireSweepTimer, ht]
    exact hrecord rfl hexp

end Sys2Proof.Machine
end

section
/-! Admission: the early steps, the verdicts, the writes that reach the Posted Write Queue and the heads that wait (chapter 4, sections
5.2 and 5.3). -/

namespace Sys2Proof.Machine

/-! ### The early steps (R56 to R59) -/

section
variable {s : State} {p : Port} {r : Request}

/-- A head that is examined now, or behind a barrier that is released, goes from step 1 on (R52). -/
theorem State.advance_of_examined (h : s.HeadAt p r .examine ∨ s.HeadAt p r .waitBarrier)
    (hb : (s.ports.get p).barrier = false) :
    s.NothingOwed ∧ (s.ports.get p).state = .up ∧ s.advance p = s.stepFormat p r := by
  obtain h | h := h
  · obtain ⟨hn, hup, -⟩ := id h
    exact ⟨hn, hup, State.advance_of_examine h⟩
  · obtain ⟨hn, hup, -⟩ := id h
    exact ⟨hn, hup, State.advance_of_waitBarrier h hb⟩

theorem Request.needsRoom_iff : r.needsRoom = true ↔ r.kind = .read ∨ r.kind = .write ∧ r.ack = true ∨ r.kind = .flush := by
  simp [Request.needsRoom, or_assoc]

theorem Request.isControl_eq_false_of_needsRoom (h : r.needsRoom = true) : r.kind.isControl = false := by
  obtain hk | ⟨hk, -⟩ | hk := Request.needsRoom_iff.mp h <;> rw [hk] <;> rfl

/-- The address of a DUP_TAG record, as the requirement words it (R58). -/
theorem Request.accessAddr_of_needsRoom (h : r.needsRoom = true) :
    (if r.kind.isAccess then some (RecordAddr.bridge r.addr) else none)
      = if r.kind = .flush then none else some (.bridge r.addr) := by
  obtain hk | ⟨hk, -⟩ | hk := Request.needsRoom_iff.mp h <;> rw [hk] <;> rfl

theorem State.stepFormat_of_control (hm : r.malformed = false) (hc : r.kind.isControl = true) :
    s.stepFormat p r = s.waitHead p .waitEngine none := by
  simp [State.stepFormat, hm, hc]

theorem State.stepFormat_of_barrier (hm : r.malformed = false) (hc : r.kind.isControl = false)
    (hb : (s.ports.get p).barrier = true) : s.stepFormat p r = s.waitHead p .waitBarrier none := by
  simp [State.stepFormat, State.stepBarrier, hm, hc, hb]

theorem State.stepFormat_of_needsRoom (hm : r.malformed = false) (hn : r.needsRoom = true)
    (hb : (s.ports.get p).barrier = false) : s.stepFormat p r = s.stepTag p r := by
  simp [State.stepFormat, State.stepBarrier, hm, Request.isControl_eq_false_of_needsRoom hn, hb]

theorem State.stepTag_of_taken (hn : r.needsRoom = true) (ht : s.TagTaken p r.tag) :
    s.stepTag p r = (s.modPort p (·.leave),
      [{ kind := .dupTag, port := some p, tag := some r.tag
         addr := if r.kind = .flush then none else some (.bridge r.addr) }]) := by
  rw [State.stepTag, if_pos (by rw [hn, State.tagLive_eq_true.mpr ht]; rfl), Request.accessAddr_of_needsRoom hn]

theorem State.stepTag_of_no_room (hn : r.needsRoom = true) (ht : ¬s.TagTaken p r.tag) (hr : ¬s.RoomFor p) :
    s.stepTag p r = s.waitHead p .waitRoom none := by
  have htag : s.tagLive p r.tag = false := Bool.eq_false_iff.mpr (mt State.tagLive_eq_true.mp ht)
  have hroom : s.room p = false := Bool.eq_false_iff.mpr (mt State.room_eq_true.mp hr)
  simp [State.stepTag, State.stepRoom, htag, hroom, hn]

end

/-- Settles O14: each clause is one step's branch, to the end of its event. -/
theorem earlyStepsDecideInOrder : Obligations.EarlyStepsDecideInOrder := by
  intro p r s hm
  refine ⟨fun hc h => ?control, fun hc h hb => ?barrier, fun h hb hn ht => ?duplicate, fun h hb hn ht hr => ?room⟩
  all_goals refine congrArg Host.Outcome.next ?_
  case control =>
    rw [State.advance_of_examine h, State.stepFormat_of_control hm hc, Event.close_waitHead h.1]
  case barrier =>
    rw [State.advance_of_examine h, State.stepFormat_of_barrier hm hc hb, Event.close_waitHead h.1]
  case duplicate =>
    obtain ⟨hno, hup, hadv⟩ := State.advance_of_examined h hb
    rw [hadv, State.stepFormat_of_needsRoom hm hn hb, State.stepTag_of_taken hn ht, Event.close_leave hno hup rfl]
    rfl
  case room =>
    obtain ⟨hno, -, hadv⟩ := State.advance_of_examined h hb
    rw [hadv, State.stepFormat_of_needsRoom hm hn hb, State.stepTag_of_no_room hn ht hr, Event.close_waitHead hno]

/-! ### The verdicts and the target links (R61, R62, R64) -/

section
variable {s : State} {p : Port} {r : Request} {c : Classification} {d : Dest}

/-- A head that ends at step 7 or 8: a posted write is dropped with this record, any other is answered with this status (R53). -/
def State.endHead (s : State) (p : Port) (r : Request) (kind : RecordKind) (st : Status) (c : Classification) : Event :=
  if r.posted then s.dropHead p r kind (some c) else s.answerHead p r st

theorem State.stepAccess_of_refused (hv : c.verdict = .refused) :
    s.stepAccess p r c = s.endHead p r .writeRefused .refused c := by
  simp only [State.stepAccess, hv]
  rfl

theorem State.stepAccess_of_noTarget (hv : c.verdict = .noTarget) :
    s.stepAccess p r c = s.endHead p r .writeRefused .noTarget c := by
  simp only [State.stepAccess, hv]
  rfl

theorem State.stepAccess_of_targetDown (hv : c.verdict = .permitted) (hd : c.dest = some d) (hl : s.linkOf d = .down) :
    s.stepAccess p r c = s.endHead p r .writeTargetDown .targetDown c := by
  simp [State.stepAccess, hv, hd, hl, State.endHead]

theorem State.stepAccess_of_extension {a : BitVec 40} (hv : c.verdict = .permitted) (hd : c.dest = some (.extension a))
    (hl : s.ext.link = .up) : s.stepAccess p r c = s.waitHead p .waitX (some c) := by
  have hlink : s.linkOf (.extension a) = .up := hl
  simp [State.stepAccess, State.dispatch, hv, hd, hlink]

theorem Request.emptyValue_of_isAccess (h : r.kind.isAccess = true) : r.emptyValue = none := by
  obtain hk | hk := ReqKind.isAccess_iff.mp h <;> simp [Request.emptyValue, hk, ReqKind.isControl]

theorem Event.close_endHead (hn : s.NothingOwed) (hup : (s.ports.get p).state = .up) (hk : r.kind.isAccess = true)
    (kind : RecordKind) (st : Status) :
    Event.close (s.endHead p r kind st c)
      = if r.posted = true then State.hand (s.afterDrop p) (dropRecord kind p r (some c))
        else s.afterHead p [completionPacket r.tag st none []] := by
  unfold State.endHead
  split
  · exact Event.close_dropHead hn hup r kind (some c)
  · rw [Event.close_answerHead hn hup, Request.emptyValue_of_isAccess hk]

end

/-- Settles O15: the verdict, then the target's link decide. -/
theorem accessVerdictsAndTargetLinksDecide : Obligations.AccessVerdictsAndTargetLinksDecide := by
  intro p r s h hk c record
  obtain ⟨hn, hup, -⟩ := id h
  have hflush : r.kind ≠ .flush := fun hf => by rw [hf] at hk; cases hk
  have hexec {e : Event} (he : s.stepAccess p r c = e) : exec (.admissionAdvance p) s = .next (Event.close e) := by
    rw [← he]
    refine congrArg (fun e : Event => Host.Outcome.next (Event.close e)) ?_
    rw [State.advance_of_passesRoom h, State.stepClassify, if_neg hflush]
  refine ⟨fun hv => ?_, fun hv => ?_, fun d hv hd hl => ?_, fun a hv hd hl => ?_⟩
  · rw [hexec (State.stepAccess_of_refused hv), Event.close_endHead hn hup hk]
    rfl
  · rw [hexec (State.stepAccess_of_noTarget hv), Event.close_endHead hn hup hk]
    rfl
  · rw [hexec (State.stepAccess_of_targetDown hv hd hl), Event.close_endHead hn hup hk]
    rfl
  · rw [hexec (State.stepAccess_of_extension hv hd hl), Event.close_waitHead hn]

/-! ### Writes to M (R65, R66, R73 to R75) -/

section
variable {s t : State} {p : Port} {r : Request} {c : Classification} {a : BitVec 36} {q : PwqEntry} {older : List PwqEntry}

theorem PwqEntry.takesMerge_eq_true {line : BitVec 30} {combine : Bool} :
    q.takesMerge line combine = true ↔ q.isOpen = true ∧ q.line = line ∧ q.combine = true ∧ combine = true := by
  simp [PwqEntry.takesMerge, and_assoc]

/-- The tail of the line takes the write's bytes (R73). -/
theorem State.takeWrite_of_merge (he : s.pwq.entries = older ++ [q]) (hq : q.takesMerge (lineOf a) c.combine = true)
    (owed : Option (Fin 24)) :
    s.takeWrite p a r c owed
      = some (s.withPwq (older ++ [q.merge p (LineImage.ofWrite (lineOffset a) r.data) owed]), q.slot) := by
  simp [State.takeWrite, he, hq]

/-- Without a tail that takes the merge, a queue with room takes the write in behind its tail (R74). -/
theorem State.takeWrite_of_append (hq : ∀ q ∈ s.pwq.entries.getLast?, ¬q.takesMerge (lineOf a) c.combine = true)
    (hlen : s.pwq.entries.length < 16) (owed : Option (Fin 24)) :
    s.takeWrite p a r c owed
      = some (s.appendWrite p (lineOf a) (LineImage.ofWrite (lineOffset a) r.data) c owed, s.freeSlot) := by
  unfold State.takeWrite
  dsimp only
  split
  · next tail ht => rw [if_neg (hq tail ht), if_pos (show s.pwq.entries.length < Config.pwqEntries from hlen)]
  · rfl

theorem State.takeWrite_of_full (hq : ∀ q ∈ s.pwq.entries.getLast?, ¬q.takesMerge (lineOf a) c.combine = true)
    (hlen : 16 ≤ s.pwq.entries.length) (owed : Option (Fin 24)) : s.takeWrite p a r c owed = none := by
  unfold State.takeWrite
  dsimp only
  split
  · next tail ht => rw [if_neg (hq tail ht), if_neg (show ¬s.pwq.entries.length < Config.pwqEntries from Nat.not_lt.mpr hlen)]
  · next hnil =>
    rw [List.getLast?_eq_none_iff.mp hnil] at hlen
    cases hlen

/-- The merge into an OPEN entry, written out (R73, R75). -/
theorem PwqEntry.merge_of_open (ho : q.isOpen = true) (p : Port) (bytes : LineImage) (owed : Option (Fin 24)) :
    q.merge p bytes owed = { q with
      bytes := LineImage.merge bytes q.bytes, contributors := q.contributors.set p true, owed := q.owed ++ owed.toList
      state := if owed.isSome = true ∨ LineImage.full (LineImage.merge bytes q.bytes) = true then .sealed else q.state } := by
  unfold PwqEntry.merge
  cases hs : q.state with
  | openFor timer =>
    by_cases hf : LineImage.full (LineImage.merge bytes q.bytes) = true <;> cases owed <;> simp [hf, PwqEntry.seal]
  | sealed => simp [PwqEntry.isOpen, hs] at ho
  | issued d timer => simp [PwqEntry.isOpen, hs] at ho

/-- The tracker entry that a write taken in at a slot leaves: an ACK write's alone (R66). -/
def State.withAck (s : State) (p : Port) (r : Request) (slot : Fin 16) : State :=
  if r.ack = true then s.addEntry p r.tag (.ackM slot) .waiting else s

theorem State.withAck_ports (slot : Fin 16) : (s.withAck p r slot).ports = s.ports := by
  unfold State.withAck
  split <;> rfl

/-- The index that a write's owed list names: an ACK write's alone (R66, R75). -/
def State.owedIndex (s : State) (r : Request) : Option (Fin 24) := if r.ack = true then some s.freeIndex else none

theorem State.owedIndex_toList : (s.owedIndex r).toList = if r.ack = true then [s.freeIndex] else [] := by
  unfold State.owedIndex
  split <;> rfl

theorem State.owedIndex_isSome : (s.owedIndex r).isSome = true ↔ r.ack = true := by
  unfold State.owedIndex
  split <;> simp_all

theorem State.dispatchWrite_of_taken {slot : Fin 16} (h : s.takeWrite p a r c (s.owedIndex r) = some (t, slot)) :
    s.dispatchWrite p r a c = ((t.withAck p r slot).modPort p (·.leave), []) := by
  unfold State.dispatchWrite
  rw [State.owedIndex] at h
  dsimp only
  rw [h]
  rfl

theorem State.dispatchWrite_of_none (h : s.takeWrite p a r c (s.owedIndex r) = none) :
    s.dispatchWrite p r a c = s.waitHead p .waitPwq (some c) := by
  unfold State.dispatchWrite
  rw [State.owedIndex] at h
  dsimp only
  rw [h]

theorem State.advance_write_of_reachesMemory (h : s.ReachesMemory p r c a) (hk : r.kind = .write) :
    s.advance p = s.dispatchWrite p r a c := by
  obtain ⟨hd, -⟩ := id h
  simp [State.advance_of_reachesMemory h, State.dispatch, hd, hk]

/-- A write that the queue takes in, as a command. -/
theorem exec_advance_of_taken (h : s.ReachesMemory p r c a) (hk : r.kind = .write) {slot : Fin 16} (hports : t.ports = s.ports)
    (ht : s.takeWrite p a r c (s.owedIndex r) = some (t, slot)) :
    exec (.admissionAdvance p) s = .next ((t.withAck p r slot).afterHead p []) := by
  obtain ⟨hn, hup⟩ := State.ReachesMemory.port_up h
  refine congrArg Host.Outcome.next ?_
  rw [State.advance_write_of_reachesMemory h hk, State.dispatchWrite_of_taken ht,
    Event.close_leave hn hup (State.withAck_ports slot |>.trans hports), State.handAll_nil]

end

/-- Settles O17: the tail decides between merge and append, and the room between append and wait. -/
theorem writesMergeAppendOrWait : Obligations.WritesMergeAppendOrWait := by
  intro p r c a s h hk bytes owed withAck
  refine ⟨fun older q he ho hline hq hc => ?_, fun hq => ?_⟩
  · intro merged
    have hmerge : q.merge p bytes (s.owedIndex r) = merged := by
      simp only [PwqEntry.merge_of_open ho, State.owedIndex_toList, State.owedIndex_isSome]
      rfl
    rw [← hmerge]
    exact exec_advance_of_taken h hk rfl (State.takeWrite_of_merge he (PwqEntry.takesMerge_eq_true.mpr ⟨ho, hline, hq, hc⟩) _)
  · have hno : ∀ q ∈ s.pwq.entries.getLast?, ¬q.takesMerge (lineOf a) c.combine = true := fun q hmem =>
      mt PwqEntry.takesMerge_eq_true.mp (hq q hmem)
    refine ⟨fun hlen => ?_, fun hlen => ?_⟩
    · intro appended
      have hnew : s.newPwqEntry p (lineOf a) bytes c (s.owedIndex r) = appended := by
        have hopen : (c.combine && decide (0 < s.pwq.combineWindow) && (s.owedIndex r).isNone && !LineImage.full bytes) = true
            ↔ c.combine = true ∧ 0 < s.pwq.combineWindow ∧ r.ack = false ∧ LineImage.full bytes = false := by
          cases hr : r.ack <;> simp [State.owedIndex, hr, and_assoc]
        simp only [State.newPwqEntry, hopen, State.owedIndex_toList]
        rfl
      rw [← hnew]
      exact exec_advance_of_taken h hk rfl (State.takeWrite_of_append hno hlen _)
    · refine congrArg Host.Outcome.next ?_
      rw [State.advance_write_of_reachesMemory h hk, State.dispatchWrite_of_none (State.takeWrite_of_full hno hlen _),
        Event.close_waitHead (State.ReachesMemory.port_up h).1]

/-! ### The bytes of a merge (R73) -/

theorem LineImage.getElem?_ofWrite {offset i : Nat} (data : List Byte) (hi : i < 64) :
    (LineImage.ofWrite offset data)[i]? = some (if offset ≤ i then data[i - offset]? else none) := by
  simp [LineImage.ofWrite, List.getElem?_range hi]

/-- A byte of the line after a merge: the write's where it carries one, the old one everywhere else. -/
theorem LineImage.getElem?_merge {old : LineImage} {offset i : Nat} (hold : old.length = 64) (data : List Byte) (hi : i < 64) :
    (LineImage.merge (LineImage.ofWrite offset data) old)[i]?
      = some ((if offset ≤ i then data[i - offset]? else none).or old[i]) := by
  rw [LineImage.merge, List.getElem?_zipWith, LineImage.getElem?_ofWrite data hi,
    List.getElem?_eq_getElem (l := old) (by rwa [hold])]

theorem LineImage.merge_length {old : LineImage} {offset : Nat} (hold : old.length = 64) (data : List Byte) :
    (LineImage.merge (LineImage.ofWrite offset data) old).length = 64 := by
  simp [LineImage.merge, LineImage.ofWrite_length, hold]

/-- A line is full exactly where each of its positions holds a byte. -/
theorem LineImage.full_eq_true {l : LineImage} {n : Nat} (hl : l.length = n) :
    LineImage.full l = true ↔ ∀ i, i < n → ∃ b, l[i]? = some (some b) := by
  subst hl
  simp only [LineImage.full, List.all_eq_true, Option.isSome_iff_exists, List.forall_mem_iff_getElem]
  exact forall₂_congr fun i hi => by simp [List.getElem?_eq_getElem hi]

/-- Settles O18, from the bytes of the merged line. -/
theorem mergedBytesReplaceAndOthersStay : Obligations.MergedBytesReplaceAndOthersStay := by
  intro old offset data hold hfits l
  have hlen : l.length = 64 := LineImage.merge_length hold data
  refine ⟨hlen, fun i hi => ?_, fun i hout => ?_, LineImage.full_eq_true hlen⟩
  · rw [LineImage.getElem?_merge hold data (by omega), if_pos (Nat.le_add_right offset i), Nat.add_sub_cancel_left,
      List.getElem?_eq_getElem hi, Option.some_or]
  · by_cases h64 : i < 64
    · have hnone : (if offset ≤ i then data[i - offset]? else none) = none := by
        split
        · exact List.getElem?_eq_none (by omega)
        · rfl
      rw [LineImage.getElem?_merge hold data h64, hnone, Option.none_or, List.getElem?_eq_getElem (by omega)]
    · rw [List.getElem?_eq_none (by omega), List.getElem?_eq_none (by omega)]

/-! ### Heads that wait (R51, R52, R59, R65, R68) -/

section
variable {s : State} {p : Port} {r : Request}

theorem State.advance_of_no_head (h : (s.ports.get p).state ≠ .up ∨ (s.ports.get p).ingress = []) : s.advance p = (s, []) := by
  unfold State.advance
  dsimp only
  split
  · next hup hi =>
    rw [hup, hi] at h
    simp at h
  · rfl

/-- A head in WAIT_PWQ stays while the queue or, for an ACK write, the tracker has no room (R65, R68). -/
theorem State.offerAgain_of_no_room (h : 16 ≤ s.pwq.entries.length ∨ r.posted = false ∧ ¬s.RoomFor p) :
    s.offerAgain p r = (s, []) := by
  have hno : ¬(decide (s.pwq.entries.length < Config.pwqEntries) && (r.posted || s.room p)) = true := by
    rw [Bool.and_eq_true, Bool.or_eq_true, decide_eq_true_iff, State.room_eq_true]
    rintro ⟨hlen, hroom⟩
    obtain hfull | ⟨hp, hr⟩ := h
    · exact Nat.not_lt.mpr hfull hlen
    · exact hroom.elim (by simp [hp]) hr
  unfold State.offerAgain
  split
  · exact if_neg hno
  · rfl

/-! ### A released barrier (R55, R57) -/

/-- The head stands at EXAMINE, as if it had not been looked at yet (R51). -/
def State.refreshHead (s : State) (p : Port) : State := s.modPort p (·.wait .examine none)

/-- What the head's wait does not change: a change of the block that sets the head record anew. -/
theorem State.modPort_refreshHead {f : PortBlock → PortBlock} (hf : f ((s.ports.get p).wait .examine none) = f (s.ports.get p)) :
    (s.refreshHead p).modPort p f = s.modPort p f := by
  simp [State.refreshHead, State.modPort, PerPort.mod, hf]

theorem State.leave_refreshHead : (s.refreshHead p).modPort p (·.leave) = s.modPort p (·.leave) := State.modPort_refreshHead rfl

theorem State.waitHead_refreshHead (g : Progress) (c : Option Classification) :
    (s.refreshHead p).waitHead p g c = s.waitHead p g c :=
  congrArg (fun t : State => (t, ([] : List ErrorRecord))) (State.modPort_refreshHead rfl)

theorem State.dropHead_refreshHead (kind : RecordKind) (c : Option Classification) :
    (s.refreshHead p).dropHead p r kind c = s.dropHead p r kind c :=
  congrArg (fun t : State => (t, [dropRecord kind p r c])) (State.modPort_refreshHead rfl)

theorem PortBlock.complete_leave_wait (b : PortBlock) (tag : BitVec 8) (st : Status) (v : Option Word64) (data : List Byte) :
    ((b.wait .examine none).complete tag st v data).leave = (b.complete tag st v data).leave := by
  simp only [PortBlock.complete_eq]
  rfl

theorem State.answerHead_refreshHead (st : Status) : (s.refreshHead p).answerHead p r st = s.answerHead p r st :=
  congrArg (fun t : State => (t, ([] : List ErrorRecord)))
    (State.modPort_refreshHead (PortBlock.complete_leave_wait _ _ _ _ _))

theorem State.refreshHead_get :
    (s.refreshHead p).ports.get p = (s.ports.get p).wait .examine none := PerPort.get_mod_same _ _ _

theorem State.room_refreshHead : (s.refreshHead p).room p = s.room p := by
  simp only [State.room, State.refreshHead_get]
  rfl

theorem State.classify_refreshHead : (s.refreshHead p).classify p r = s.classify p r := by
  simp only [State.classify, State.refreshHead_get]
  rfl

theorem State.dispatchRead_refreshHead (a : BitVec 36) (c : Classification) :
    (s.refreshHead p).dispatchRead p r a c = s.dispatchRead p r a c := by
  cases hy : s.youngest (lineOf a) with
  | none =>
    rw [State.dispatchRead_of_none hy, State.dispatchRead_of_none (s := s.refreshHead p) hy]
    exact congrArg (·, []) (State.leave_refreshHead (s := s.addEntry p r.tag _ .ready))
  | some q =>
    by_cases hc : LineImage.covers q.bytes (lineOffset a) r.length = true
    · rw [State.dispatchRead_of_hit hy hc, State.dispatchRead_of_hit (s := s.refreshHead p) hy hc]
      exact congrArg (·, []) (State.modPort_refreshHead (s := s.sealWhere (·.slot = q.slot))
        (PortBlock.complete_leave_wait _ _ _ _ _))
    · rw [State.dispatchRead_of_lacking hy hc, State.dispatchRead_of_lacking (s := s.refreshHead p) hy hc]
      exact congrArg (·, []) (State.leave_refreshHead (s := (s.sealWhere (·.slot = q.slot)).addEntry p r.tag _ (.held q.slot)))

theorem State.takeWrite_refreshHead (a : BitVec 36) (c : Classification) (owed : Option (Fin 24)) :
    (s.refreshHead p).takeWrite p a r c owed = (s.takeWrite p a r c owed).map fun x => (x.1.refreshHead p, x.2) := by
  unfold State.takeWrite
  dsimp only
  change (match s.pwq.entries.getLast? with | some _ => _ | none => _) = _
  cases s.pwq.entries.getLast? with
  | none => rfl
  | some tail =>
    dsimp only
    split
    · rfl
    · change (if s.pwq.entries.length < Config.pwqEntries then _ else _) = _
      split <;> rfl

theorem State.dispatchWrite_refreshHead (a : BitVec 36) (c : Classification) :
    (s.refreshHead p).dispatchWrite p r a c = s.dispatchWrite p r a c := by
  have htake := State.takeWrite_refreshHead (s := s) (p := p) (r := r) a c (s.owedIndex r)
  cases ht : s.takeWrite p a r c (s.owedIndex r) with
  | none =>
    rw [ht] at htake
    rw [State.dispatchWrite_of_none ht, State.dispatchWrite_of_none (s := s.refreshHead p) htake, State.waitHead_refreshHead]
  | some x =>
    obtain ⟨t, slot⟩ := x
    rw [ht] at htake
    have hack : (t.refreshHead p).withAck p r slot = (t.withAck p r slot).refreshHead p := by
      unfold State.withAck
      split <;> rfl
    rw [State.dispatchWrite_of_taken ht, State.dispatchWrite_of_taken (s := s.refreshHead p) htake, hack,
      State.leave_refreshHead]

theorem State.dispatchFlush_refreshHead : (s.refreshHead p).dispatchFlush p r = s.dispatchFlush p r := by
  have hreport : (((s.ports.get p).wait .examine none).reportFlag r.tag).leave = ((s.ports.get p).reportFlag r.tag).leave := by
    simp only [PortBlock.reportFlag, PortBlock.complete_eq]
    rfl
  have hpwq : (s.refreshHead p).pwq = s.pwq := rfl
  unfold State.dispatchFlush
  dsimp only
  rw [State.modPort_refreshHead hreport, hpwq]
  split
  · rfl
  · exact congrArg (·, []) (State.modPort_refreshHead (s := (s.sealWhere (·.contributors.get p)).addEntry p r.tag _ .waiting) rfl)

theorem State.stepAccess_refreshHead (c : Classification) : (s.refreshHead p).stepAccess p r c = s.stepAccess p r c := by
  have hlink (d : Dest) : (s.refreshHead p).linkOf d = s.linkOf d := by cases d <;> rfl
  have hdispatch : (s.refreshHead p).dispatch p r c = s.dispatch p r c ∨ c.dest = none := by
    unfold State.dispatch
    simp only [State.dispatchWrite_refreshHead, State.dispatchRead_refreshHead, State.waitHead_refreshHead]
    cases hd : c.dest with
    | none => exact .inr rfl
    | some d => cases d <;> exact .inl rfl
  simp only [State.stepAccess, State.answerHead_refreshHead, State.dropHead_refreshHead, hlink]
  split
  · next d _ hd => rw [hdispatch.resolve_right (by simp [hd])]
  · rfl
  · rfl

/-- Steps 1 to 9 look at no head record: they find the same with the head at EXAMINE. -/
theorem State.stepFormat_refreshHead : (s.refreshHead p).stepFormat p r = s.stepFormat p r := by
  have hbarrier : ((s.refreshHead p).ports.get p).barrier = (s.ports.get p).barrier := by rw [State.refreshHead_get]; rfl
  have htag : (s.refreshHead p).tagLive p r.tag = s.tagLive p r.tag := rfl
  simp only [State.stepFormat, State.stepMalformed, State.stepBarrier, State.stepTag, State.stepRoom, State.stepClassify, hbarrier,
    htag, State.waitHead_refreshHead, State.dropHead_refreshHead, State.answerHead_refreshHead, State.leave_refreshHead,
    State.room_refreshHead, State.classify_refreshHead, State.stepAccess_refreshHead, State.dispatchFlush_refreshHead]

end

/-- Settles O20: the wait in which the head stands decides, and after a barrier's release no step looks at the head record. -/
theorem waitingHeadsStayUntilTheirWaitEnds : Obligations.WaitingHeadsStayUntilTheirWaitEnds := by
  have hstay {p : Port} {s : State} (hn : s.NothingOwed) (h : s.advance p = (s, [])) :
      exec (.admissionAdvance p) s = .next s := by
    refine congrArg Host.Outcome.next ?_
    rw [h, Event.close_of_nothingOwed hn, State.handAll_nil]
  refine ⟨fun p s hn h => hstay hn (State.advance_of_no_head h), fun p r s h => ?_, fun p r s h hb => ?_⟩
  · obtain h | h | ⟨h, hb⟩ | ⟨h, hr⟩ | ⟨h, hr⟩ := h
    all_goals
      obtain ⟨hn, hup, hhead, hg⟩ := h
      obtain ⟨rest, hi⟩ := State.ingress_of_head hhead
      refine hstay hn ?_
      simp only [State.advance, hup, hi, hg]
    · exact if_pos hb
    · exact if_neg (mt State.room_eq_true.mp hr)
    · exact State.offerAgain_of_no_room hr
  · obtain ⟨hn, hup, hhead, -⟩ := id h
    have hfresh : (s.refreshHead p).HeadAt p r .examine := by
      have hblock := State.refreshHead_get (s := s) (p := p)
      refine ⟨State.withPort_nothingOwed hn (hn.owed_get p), ?_, ?_, ?_⟩ <;> rw [hblock]
      · exact hup
      · exact hhead
      · rfl
    refine congrArg (fun e : Event => Host.Outcome.next (Event.close e)) ?_
    rw [State.advance_of_waitBarrier h hb, ← State.stepFormat_refreshHead]
    exact (State.advance_of_examine hfresh).symm

end Sys2Proof.Machine
end

section
/-! The grants: one X credit (chapter 9) and one arbitration (chapter 7). -/

namespace Sys2Proof.Machine

/-! ### Credit grants (R148 to R150, R152, R153) -/

section
variable {s : State} {p : Port} {r : Request} {c : Classification} {a : BitVec 40}

theorem Port.mem_fromHere (p q : Port) : q ∈ p.fromHere := by
  cases p <;> cases q <;> decide

/-- A port's credit candidate is the head that waits for a credit with everything else it needs (R149). -/
theorem State.creditCandidate_iff_waits (hn : s.NothingOwed) :
    s.creditCandidate p = some (r, c, a) ↔ s.WaitsForCredit p r c a := by
  rw [State.creditCandidate_eq_some]
  constructor
  · rintro ⟨hup, hhead, hg, hc, hd, hok⟩
    exact ⟨⟨hn, hup, hhead, hg⟩, hc, hd, hok⟩
  · rintro ⟨⟨-, hup, hhead, hg⟩, hc, hd, hok⟩
    exact ⟨hup, hhead, hg, hc, hd, hok⟩

theorem State.creditCandidate_eq_none (hn : s.NothingOwed) (h : ∀ r c a, ¬s.WaitsForCredit p r c a) :
    s.creditCandidate p = none :=
  Option.eq_none_iff_forall_ne_some.mpr fun ⟨r, c, a⟩ hc => h r c a ((State.creditCandidate_iff_waits hn).mp hc)

/-- The first port from the rotation pointer on whose head waits for a credit wins (R150). -/
theorem State.creditWinner_of_first (h : s.WaitsForCredit p r c a)
    (hbefore : ∀ q ∈ s.ext.rotation.fromHere.takeWhile fun q => q ≠ p, ∀ r' c' a', ¬s.WaitsForCredit q r' c' a') :
    s.creditWinner = some (p, r, c, a) := by
  have hn : s.NothingOwed := h.1.1
  refine findSome?_eq_some_of_takeWhile (Port.mem_fromHere _ p) ?_ fun q hq => ?_
  · rw [(State.creditCandidate_iff_waits hn).mpr h]
    rfl
  · rw [State.creditCandidate_eq_none hn (hbefore q hq)]
    rfl

theorem State.grantCredit_of_posted (hl : s.ext.link = .up) (hc : 0 < s.ext.credits) (hw : s.creditWinner = some (p, r, c, a))
    (hr : r.posted = true) : s.grantCredit = (s.forwardPosted p r c a, []) := by
  simp [State.grantCredit, hl, hc, hw, hr]

theorem State.grantCredit_of_tracked (hl : s.ext.link = .up) (hc : 0 < s.ext.credits) (hw : s.creditWinner = some (p, r, c, a))
    (hr : r.posted = false) {x : Fin 8} (hx : s.freeXtag = some x) :
    s.grantCredit = (s.forwardTracked p r c a x, []) := by
  simp [State.grantCredit, hl, hc, hw, hr, hx]

theorem State.grantCredit_of_none (hn : s.NothingOwed)
    (h : s.ext.link = .down ∨ s.ext.credits = 0 ∨ ∀ q r c a, ¬s.WaitsForCredit q r c a) : s.grantCredit = (s, []) := by
  unfold State.grantCredit
  split
  · next hok =>
    have hnone : s.creditWinner = none := by
      obtain h | h | h := h
      · simp [h] at hok
      · simp [h] at hok
      · simp [State.creditWinner, fun q => State.creditCandidate_eq_none hn (h q)]
    rw [hnone]
  · rfl

end

/-- Settles O23: the winner's head leaves, and its kind decides what is kept of it. -/
theorem creditGrantsForwardOneHead : Obligations.CreditGrantsForwardOneHead := by
  refine ⟨fun p r c a s hl hc h hbefore => ?_, fun s hn h => ?_⟩
  · obtain ⟨⟨hn, hup, -⟩, -⟩ := id h
    have hw := State.creditWinner_of_first h hbefore
    refine ⟨fun hr => congrArg Host.Outcome.next ?_, fun x hr hx hlow => congrArg Host.Outcome.next ?_⟩
    · rw [State.grantCredit_of_posted hl hc hw hr, State.forwardPosted, Event.close_leave hn hup (by rfl)]
      rfl
    · rw [State.grantCredit_of_tracked hl hc hw hr (State.freeXtag_eq_some.mpr ⟨hx, hlow⟩), State.forwardTracked,
        Event.close_leave hn hup (by rfl)]
      rfl
  · refine congrArg Host.Outcome.next ?_
    rw [State.grantCredit_of_none hn h, Event.close_of_nothingOwed hn, State.handAll_nil]

/-! ### Arbitrations (R119, R123, R126, R142) -/

section
variable {s : State} {d : Fin 8} {how : Deciding} {w : Winner}

theorem State.arbitrate_of_decision (hl : s.sched.link = .up) (hd : s.freeDtag = some d) (hw : s.decision = some (how, w)) :
    s.arbitrate = s.grant d how w := by
  simp only [State.arbitrate, hl, hd, hw]

theorem State.arbitrate_of_none (h : s.sched.link = .down ∨ (∀ d : Fin 8, s.sched.dtags[d] ≠ .free) ∨ s.decision = none) :
    s.arbitrate = s := by
  unfold State.arbitrate
  split
  · next d how w hl hd hw =>
    obtain h | h | h := h
    · rw [h] at hl; cases hl
    · exact absurd (State.freeDtag_eq_some.mp hd).1 (h d)
    · rw [h] at hw; cases hw
  · rfl

theorem State.issue_of_readM {e : TrackerEntry} {a : BitVec 36} {n : Nat} {g : RegionIndex} {gen : BitVec 8}
    (hw : e.work = .readM a n g gen) :
    s.issue d (.port e) =
      ((s.setEntryState e.index (.issued d s.sched.epoch s.tracker.timeoutM)).setDtag d (.read e.index n)).sendM
        (memReadPacket d s.sched.epoch a n) := by
  simp only [State.issue, hw]

end

/-- Settles O26: the decision's winner is granted the lowest free dtag, and its kind decides what is issued. -/
theorem arbitrationIssuesOneCommand : Obligations.ArbitrationIssuesOneCommand := by
  refine ⟨fun s d how hl hfree hlow => ?_, fun s h => congrArg Host.Outcome.next (State.arbitrate_of_none h)⟩
  intro slotUp
  have hd : s.freeDtag = some d := State.freeDtag_eq_some.mpr ⟨hfree, hlow⟩
  refine ⟨fun e a n g gen hw hwork => ?_, fun q hw => ?_, fun row hw => ?_⟩
  all_goals refine (congrArg Host.Outcome.next (State.arbitrate_of_decision hl hd hw)).trans ?_
  · rw [State.grant, State.issue_of_readM hwork]
    rfl
  · rfl
  · rfl

end Sys2Proof.Machine
end

section
/-! The Control Engine: selection and checks (R159 to R161), and the settings whose write has an effect of its own (R78, R130, R138,
R141). -/

namespace Sys2Proof.Machine

/-! ### Selection (R159) -/

section
variable {s : State} {p : Port} {r : Request} {row : CtrlRow}

theorem State.controlCandidate_eq_some :
    s.controlCandidate p = some r ↔
      (s.ports.get p).state = .up ∧ (s.ports.get p).progress = .waitEngine ∧ (s.ports.get p).ingress.head? = some r := by
  unfold State.controlCandidate
  dsimp only
  split
  · next hup hg hi => simp [hup, hg, hi]
  · next hno =>
    refine iff_of_false (by simp) fun ⟨hup, hg, hhead⟩ => ?_
    obtain ⟨rest, hi⟩ := State.ingress_of_head hhead
    exact hno r rest hup hg hi

theorem State.controlCandidate_eq_none :
    s.controlCandidate p = none ↔
      ¬((s.ports.get p).state = .up ∧ (s.ports.get p).progress = .waitEngine ∧ (s.ports.get p).ingress ≠ []) := by
  rw [Option.eq_none_iff_forall_ne_some]
  simp only [ne_eq, State.controlCandidate_eq_some]
  constructor
  · rintro h ⟨hup, hg, hi⟩
    exact h _ ⟨hup, hg, List.head?_eq_some_head hi⟩
  · rintro h r ⟨hup, hg, hhead⟩
    obtain ⟨rest, hi⟩ := State.ingress_of_head hhead
    exact h ⟨hup, hg, by simp [hi]⟩

/-- A search along a list that tells which member answered stops at that member: none before it has an answer. -/
theorem findSome?_tagged_eq_some {α β : Type} [DecidableEq α] {f : α → Option β} {l : List α} {a : α} {b : β} (ha : a ∈ l) :
    l.findSome? (fun x => (f x).map fun y => (x, y)) = some (a, b)
      ↔ f a = some b ∧ ∀ x ∈ l.takeWhile fun x => x ≠ a, f x = none := by
  constructor
  · intro h
    obtain ⟨before, x, after, rfl, hx, hnone⟩ := List.findSome?_eq_some_iff.mp h
    obtain ⟨y, hy, he⟩ := Option.map_eq_some_iff.mp hx
    cases he
    refine ⟨hy, fun z hz => ?_⟩
    have hne : ∀ z ∈ before, decide (z ≠ a) = true := fun z hmem => decide_eq_true fun he => by
      have hz := hnone z hmem
      rw [he, hy] at hz
      cases hz
    rw [List.takeWhile_append_of_pos hne, List.takeWhile_cons_of_neg (by simp), List.append_nil] at hz
    simpa using hnone z hz
  · rintro ⟨hb, hbefore⟩
    exact findSome?_eq_some_of_takeWhile ha (by simp [hb]) fun x hx => by simp [hbefore x hx]

/-- The winner of a selection is the first control candidate from the rotation pointer on (R159). -/
theorem State.engineWinner_eq_some :
    s.engineWinner = some (p, r)
      ↔ s.controlCandidate p = some r ∧ ∀ q ∈ s.engine.fromHere.takeWhile fun q => q ≠ p, s.controlCandidate q = none :=
  findSome?_tagged_eq_some (Port.mem_fromHere _ _)

/-- Without a candidate of the row nothing changes (log entry 9). -/
theorem State.serve_of_other_row (h : ∀ p r, s.engineWinner = some (p, r) → r.row ≠ row)
    (service : Port → Request → State → Served) : s.serve row service = (s, []) := by
  obtain ⟨-, hs⟩ | ⟨p, r, hw, hr, -⟩ := s.serve_cases row service
  · exact hs
  · exact absurd hr (h p r hw)

end

/-! ### The checks (R161) -/

section
variable {r : Request} {rights : Rights} {o : Obj}

theorem Request.row_of_action (h : r.kind = .ctrlAction) : r.row = CtrlRow.ofAction r.code := by simp [Request.row, h]

theorem Request.row_of_write (h : r.kind = .ctrlWrite) : r.row = CtrlRow.ofWrite r.code := by simp [Request.row, h]

theorem Request.row_of_read (h : r.kind = .ctrlRead) : r.row = .object := by simp [Request.row, h]

theorem Request.checks_of_unmanaged (h : rights.management = false) : r.checks rights = some .refused := by
  simp [Request.checks, h]

theorem Request.checks_of_action (h : rights.management = true) (hk : r.kind = .ctrlAction) :
    r.checks rights = if 1 ≤ r.code ∧ r.code ≤ 10 then none else some .invalid := by
  rw [Request.checks, h, hk]
  by_cases hc : r.code = 0 ∨ 10 < r.code
  · simp only [Bool.not_true, Bool.false_eq_true, if_false, if_true, if_pos hc, if_neg (show ¬(1 ≤ r.code ∧ r.code ≤ 10) by omega)]
  · simp only [Bool.not_true, Bool.false_eq_true, if_false, if_true, if_neg hc, if_pos (show 1 ≤ r.code ∧ r.code ≤ 10 by omega)]

theorem Request.checks_of_object (h : rights.management = true) (hk : r.kind ≠ .ctrlAction) (ho : Obj.ofCode r.code = some o) :
    r.checks rights =
      if r.kind = .ctrlWrite ∧ o.readOnly = true then some .refused
      else if r.index < o.indices then none else some .invalid := by
  simp only [Request.checks, h, Bool.not_true, Bool.false_eq_true, if_false, hk, ho]
  refine ite_congr rfl (fun _ => rfl) fun _ => ?_
  by_cases hi : r.index < o.indices
  · rw [if_pos hi, if_neg (Nat.not_le.mpr hi)]
  · rw [if_neg hi, if_pos (Nat.not_lt.mp hi)]

theorem Request.checks_of_no_object (h : rights.management = true) (hk : r.kind ≠ .ctrlAction) (ho : Obj.ofCode r.code = none) :
    r.checks rights = some .invalid := by
  simp [Request.checks, h, hk, ho]

theorem Obj.ofCode_eq_none {n : Nat} (h : n = 0 ∨ 28 < n) : Obj.ofCode n = none := by
  obtain rfl | h := h
  · rfl
  · obtain ⟨k, rfl⟩ : ∃ k, n = k + 29 := ⟨n - 29, by omega⟩
    rfl

/-- The object codes that name a read-only object (section 10.2). -/
abbrev readOnlyCodes : List Nat := [2, 4, 5, 7, 9, 10, 19, 20, 21, 22, 23, 24, 25, 28]

/-- How many indices the object of a code has (section 10.2). -/
def codeIndices (n : Nat) : Nat :=
  if n ∈ [1, 2] then 64 else if n ∈ [8, 9, 10] then 4 else if n ∈ [21, 24] then 2 else if n = 28 then 10 else 1

/-- The object table (section 10.2), row by row. -/
theorem Obj.ofCode_table : ∀ k : Fin 28,
    (Obj.ofCode (k.val + 1)).map (fun o => (o.readOnly, o.indices))
      = some (decide (k.val + 1 ∈ readOnlyCodes), codeIndices (k.val + 1)) := by
  decide

theorem Obj.ofCode_of_range {n : Nat} (h1 : 1 ≤ n) (h28 : n ≤ 28) :
    ∃ o, Obj.ofCode n = some o ∧ (o.readOnly = true ↔ n ∈ readOnlyCodes) ∧ o.indices = codeIndices n := by
  have h := Obj.ofCode_table ⟨n - 1, by omega⟩
  simp only [Nat.sub_add_cancel h1] at h
  obtain ⟨o, ho, he⟩ := Option.map_eq_some_iff.mp h
  obtain ⟨hr, hi⟩ := Prod.mk.injEq .. ▸ he
  exact ⟨o, ho, by rw [hr, decide_eq_true_iff], hi⟩

theorem lt_codeIndices_iff {n i : Nat} :
    (n ∈ [1, 2] ∧ i < 64) ∨ (n ∈ [8, 9, 10] ∧ i < 4) ∨ (n ∈ [21, 24] ∧ i < 2) ∨ (n = 28 ∧ i < 10) ∨ i = 0
      ↔ i < codeIndices n := by
  simp only [codeIndices, List.mem_cons, List.not_mem_nil, or_false]
  split
  · omega
  · split
    · omega
    · split
      · omega
      · split <;> omega

end

/-- Settles O37: who wins, then the checks in their order by the object table, then the row. -/
theorem selectionsApplyTheChecks : Obligations.SelectionsApplyTheChecks := by
  refine ⟨fun s p r => ?winner, fun s p r row st hs hc => ?failed, fun s row hn h => ?other, fun r => ?rows,
    fun r rights => ⟨Request.checks_of_unmanaged, fun hm => ⟨Request.checks_of_action hm, fun hk => ?objects⟩⟩⟩
  case winner => simp only [State.engineWinner_eq_some, State.controlCandidate_eq_some, State.controlCandidate_eq_none]
  case failed => rw [exec_command, State.close_serve_of_check hs hc]
  case other => rw [exec_command, State.serve_of_other_row h, Event.close_of_nothingOwed hn, State.handAll_nil]
  case rows => exact ⟨fun hk => (Request.row_of_action hk).trans rfl, fun hk => (Request.row_of_write hk).trans rfl, Request.row_of_read⟩
  case objects =>
    have hne : r.kind ≠ .ctrlAction := by obtain hk | hk := hk <;> simp [hk]
    refine ⟨fun hcode => Request.checks_of_no_object hm hne (Obj.ofCode_eq_none hcode), fun h1 h28 => ?_⟩
    obtain ⟨o, ho, hro, hi⟩ := Obj.ofCode_of_range h1 h28
    have hchecks := Request.checks_of_object hm hne ho
    simp only [hro, hi] at hchecks
    rw [hchecks]
    refine ⟨fun hw hmem => if_pos ⟨hw, hmem⟩, fun hfree => ?_⟩
    have hno : ¬(r.kind = .ctrlWrite ∧ r.code ∈ readOnlyCodes) := by
      rintro ⟨hw, hmem⟩
      obtain hr | hr := hfree
      · rw [hr] at hw; cases hw
      · exact hr hmem
    rw [if_neg hno]
    exact if_congr lt_codeIndices_iff.symm rfl rfl

/-! ### Settings with an effect of their own (R78, R130, R138, R141) -/

section
variable {s u : State} {p : Port} {r : Request} {row : CtrlRow}

/-- A service that leaves the ports alone and completes OK without a value, as a command. -/
theorem exec_command_of_served (h : s.Serves p r row) (hu : u.ports = s.ports)
    (hv : row.service p r (s.select p) = { state := u.select p, status := .ok }) :
    exec row.command s = .next (u.afterService p r .ok 0) := by
  have hn : u.NothingOwed := by rw [State.NothingOwed, hu]; exact h.nothingOwed
  rw [exec_command, State.close_serve_select_of_nothingOwed h (by rw [hu]; exact h.port_up) hn hv]

/-- A service that refuses the value as out of range, as a command. -/
theorem exec_command_of_invalid (h : s.Serves p r row)
    (hv : row.service p r (s.select p) = { state := s.select p, status := .invalid }) :
    exec row.command s = .next (s.afterService p r .invalid 0) := by
  rw [exec_command, State.close_serve_unchanged h hv]

theorem Port.ofCode_favouredCode (f : Option Port) : Port.ofCode (favouredCode f) = f := by
  cases f with
  | none => rfl
  | some p => exact Port.ofCode_code p

theorem favouredCode_le (f : Option Port) : favouredCode f ≤ 4 := by
  cases f with
  | none => exact le_rfl
  | some p => cases p <;> decide

theorem serveFavoured_of_code {f : Option Port} (h : r.value.toNat = favouredCode f) :
    serveFavoured p r s =
      { state := if f = s.sched.favoured then s
          else { s with sched := { s.sched with favoured := f, slotCounter := 0, hold := none } }
        status := .ok } := by
  unfold serveFavoured
  dsimp only
  rw [h, if_neg (Nat.not_lt.mpr (favouredCode_le f)), Port.ofCode_favouredCode]
  split <;> rfl

theorem serveCombineWindow_of_range (h : r.value.toNat ≤ 255) :
    serveCombineWindow p r s =
      { state := { s with pwq := { s.pwq with
          combineWindow := r.value.toNat
          entries := if r.value.toNat = 0 then s.pwq.entries.map PwqEntry.seal else s.pwq.entries } }
        status := .ok } := by
  unfold serveCombineWindow
  dsimp only
  rw [if_neg (Nat.not_lt.mpr h)]
  split
  · simp [State.sealWhere, State.withPwq]
  · rfl

theorem serveSweepInterval_of_range (h : r.value.toNat ≤ 65535) :
    serveSweepInterval p r s =
      { state := { s with sweep := { s.sweep with interval := r.value.toNat, timer := sweepPeriod r.value.toNat } }
        status := .ok } :=
  if_neg (Nat.not_lt.mpr h)

theorem serveSweepRows_of_range (h1 : 1 ≤ r.value.toNat) (h : r.value.toNat ≤ 2 ^ 20) :
    serveSweepRows p r s =
      { state := { s with sweep := { s.sweep with
          rows := r.value.toNat, row := if s.sweep.row < r.value.toNat then s.sweep.row else 0 } }
        status := .ok } := by
  refine (if_neg (by omega)).trans ?_
  by_cases hr : s.sweep.row < r.value.toNat
  · rw [if_pos hr, if_neg (Nat.not_le.mpr hr)]
  · rw [if_neg hr, if_pos (Nat.not_lt.mp hr)]

end

/-- Settles O47: each service by the range of its value. -/
theorem settingsWritesHaveTheirEffects : Obligations.SettingsWritesHaveTheirEffects := by
  intro s p r n
  refine ⟨fun hs => ⟨fun hn => exec_command_of_invalid hs (if_pos hn), fun f hf => ?favoured⟩,
    fun hs => ⟨fun hn => exec_command_of_invalid hs (if_pos hn), fun hn => ?window⟩,
    fun hs => ⟨fun hn => exec_command_of_invalid hs (if_pos hn), fun hn => ?interval⟩,
    fun hs => ⟨fun hn => exec_command_of_invalid hs (if_pos hn), fun h1 hn => ?rows⟩⟩
  case favoured =>
    refine exec_command_of_served hs (by split <;> rfl) ((serveFavoured_of_code (s := s.select p) (p := p) hf).trans ?_)
    by_cases hsame : f = s.sched.favoured
    · rw [if_pos hsame, if_pos (show f = (s.select p).sched.favoured from hsame)]
    · rw [if_neg hsame, if_neg (show ¬f = (s.select p).sched.favoured from hsame)]
      rfl
  case window => exact exec_command_of_served hs rfl (serveCombineWindow_of_range (p := p) hn)
  case interval => exact exec_command_of_served hs rfl (serveSweepInterval_of_range (p := p) hn)
  case rows => exact exec_command_of_served hs rfl (serveSweepRows_of_range (p := p) h1 hn)

end Sys2Proof.Machine
end

section
/-! The layout of words and packets (section 3.7, R50): what is read from the words that the bridge writes and receives. -/

namespace Sys2Proof.Machine

open Sys2Proof.Word64 (field place)

/-! ### Bits and fields -/

section
variable {w v : Word64} {lo n i : Nat}

/-- A bit of a word is a bit of any field over it. -/
theorem getLsbD_eq_field (hlo : lo ≤ i) (hi : i < lo + n) : w.getLsbD i = (field w lo n).getLsbD (i - lo) := by
  have hlt : i - lo < n := by omega
  simp [field, hlt, Nat.add_sub_cancel' hlo]

theorem getLsbD_of_field_eq (h : field w lo n = field v lo n) (hlo : lo ≤ i) (hi : i < lo + n) : w.getLsbD i = v.getLsbD i := by
  rw [getLsbD_eq_field hlo hi, h, ← getLsbD_eq_field hlo hi]

theorem getLsbD_of_field_zero (h : field v lo n = 0) (hlo : lo ≤ i) (hi : i < lo + n) : v.getLsbD i = false := by
  rw [getLsbD_eq_field hlo hi, h]
  exact BitVec.getLsbD_zero

@[simp] theorem getLsbD_zero_bit (b : Bool) : (bit b).getLsbD 0 = b := by cases b <;> rfl

/-- One bit of a word as a field of one bit. -/
theorem field_one (w : Word64) (i : Nat) : field w i 1 = bit (w.getLsbD i) := by
  ext j hj
  obtain rfl : j = 0 := by omega
  simp [field, bit]

theorem flag_of_field {b : Bool} (h : field w i 1 = bit b) : w.getLsbD i = b := by
  rw [getLsbD_eq_field (lo := i) (n := 1) le_rfl (by omega), h, Nat.sub_self, getLsbD_zero_bit]

/-- A field within the bits where another was put is a part of that one. -/
theorem field_place_within {m : Nat} {k : Nat} (x : BitVec m) (h : lo + k + n ≤ 64) :
    field (place lo x) (lo + k) n = x.extractLsb' k n := by
  ext j hj
  have hword : lo + (k + j) < 64 := by omega
  simp [field, place, hword, Nat.add_assoc]

/-- A flag is read back from where it was put, and a field put elsewhere adds nothing to it. -/
@[simp] theorem getElem_place_bit {i : Nat} (h : i < 64) (b : Bool) : (place i (bit b))[i] = b := by
  rw [← BitVec.getLsbD_eq_getElem h]
  exact flag_of_field (field_place_same (by omega) _)

@[simp] theorem getElem_place_disjoint {m off i : Nat} (hi : i < 64) (h : off + m ≤ i ∨ i < off) (x : BitVec m) :
    (place off x)[i] = false := by
  rw [← BitVec.getLsbD_eq_getElem hi, getLsbD_eq_field (lo := i) (n := 1) le_rfl (by omega), field_place_disjoint (by omega)]
  exact BitVec.getLsbD_zero

end

/-! ### Requests (section 3.7, "Upstream requests") -/

theorem ReqKind.ofCode_of_unknown {c : BitVec 4} (h : c = 0 ∨ 7 ≤ c.toNat) : ReqKind.ofCode c = .unknown c := by
  unfold ReqKind.ofCode
  obtain rfl | h := h
  · rfl
  · split
    case h_7 => rfl
    all_goals omega

section
variable {w : Word64} {w1 : Option Word64} {data : List Byte}

/-- A READ's fields (R50). -/
theorem Request.ofPacket_read (h : field w 0 4 = 1) :
    Request.ofPacket ⟨w, w1, data⟩
      = ⟨.read, w.getLsbD 4, false, field w 8 8, (field w 16 7).toNat, field w 24 40, 0, 0, w1, data⟩ := by
  simp only [Request.ofPacket, h]
  rfl

theorem Request.ofPacket_write (h : field w 0 4 = 2) :
    Request.ofPacket ⟨w, w1, data⟩
      = ⟨.write, w.getLsbD 4, w.getLsbD 5, field w 8 8, (field w 16 7).toNat, field w 24 40, 0, 0, w1, data⟩ := by
  simp only [Request.ofPacket, h]
  rfl

theorem Request.ofPacket_flush (h : field w 0 4 = 3) :
    Request.ofPacket ⟨w, w1, data⟩ = ⟨.flush, false, false, field w 8 8, 0, 0, 0, 0, w1, data⟩ := by
  simp only [Request.ofPacket, h]
  rfl

theorem Request.ofPacket_ctrlRead (h : field w 0 4 = 4) :
    Request.ofPacket ⟨w, w1, data⟩
      = ⟨.ctrlRead, false, false, field w 8 8, 0, 0, (field w 16 16).toNat, (field w 32 16).toNat, w1, data⟩ := by
  simp only [Request.ofPacket, h]
  rfl

theorem Request.ofPacket_ctrlWrite (h : field w 0 4 = 5) :
    Request.ofPacket ⟨w, w1, data⟩
      = ⟨.ctrlWrite, false, false, field w 8 8, 0, 0, (field w 16 16).toNat, (field w 32 16).toNat, w1, data⟩ := by
  simp only [Request.ofPacket, h]
  rfl

theorem Request.ofPacket_ctrlAction (h : field w 0 4 = 6) :
    Request.ofPacket ⟨w, w1, data⟩ = ⟨.ctrlAction, false, false, field w 8 8, 0, 0, (field w 16 16).toNat, 0, w1, data⟩ := by
  simp only [Request.ofPacket, h]
  rfl

end

/-! The words of a request, whatever stands in the bits that its kind leaves unused. -/

section
variable (priv ack : Bool) (k : BitVec 1) (tag : BitVec 8) (len : BitVec 7) (addr : BitVec 40) (w1 : Option Word64)
  (data : List Byte)

theorem Request.ofPacket_readWord (j : BitVec 3) :
    Request.ofPacket
        ⟨place 0 1#4 ||| place 4 (bit priv) ||| place 5 j ||| place 8 tag ||| place 16 len ||| place 23 k ||| place 24 addr,
          w1, data⟩
      = ⟨.read, priv, false, tag, len.toNat, addr, 0, 0, w1, data⟩ := by
  rw [Request.ofPacket_read (by simp [field_place_same, field_place_disjoint])]
  simp [field_place_same, field_place_disjoint]

theorem Request.ofPacket_writeWord (j : BitVec 2) :
    Request.ofPacket
        ⟨place 0 2#4 ||| place 4 (bit priv) ||| place 5 (bit ack) ||| place 6 j ||| place 8 tag ||| place 16 len ||| place 23 k
          ||| place 24 addr, w1, data⟩
      = ⟨.write, priv, ack, tag, len.toNat, addr, 0, 0, w1, data⟩ := by
  rw [Request.ofPacket_write (by simp [field_place_same, field_place_disjoint])]
  simp [field_place_same, field_place_disjoint]

theorem Request.ofPacket_flushWord (j : BitVec 4) (rest : BitVec 48) :
    Request.ofPacket ⟨place 0 3#4 ||| place 4 j ||| place 8 tag ||| place 16 rest, w1, data⟩
      = ⟨.flush, false, false, tag, 0, 0, 0, 0, w1, data⟩ := by
  rw [Request.ofPacket_flush (by simp [field_place_same, field_place_disjoint])]
  simp [field_place_same, field_place_disjoint]

end

/-- The word of a control request, its kind apart. -/
theorem controlWord_fields (kind j : BitVec 4) (tag : BitVec 8) (obj idx k : BitVec 16) :
    let w := place 0 kind ||| place 4 j ||| place 8 tag ||| place 16 obj ||| place 32 idx ||| place 48 k
    field w 0 4 = kind ∧ field w 8 8 = tag ∧ field w 16 16 = obj ∧ field w 32 16 = idx := by
  simp [field_place_same, field_place_disjoint]

/-- A request forwarded to X reads back with what it is forwarded with (R38, R152, R153). -/
theorem Request.ofPacket_xRequestPacket {r : Request} (hlen : r.length < 128)
    (hk : r.kind = .read ∧ r.ack = false ∨ r.kind = .write) (a : BitVec 40) (tag : BitVec 8) (priv : Bool) :
    Request.ofPacket (xRequestPacket r a tag priv) = ⟨r.kind, priv, r.ack, tag, r.length, a, 0, 0, none, r.data⟩ := by
  have hmod : r.length % 128 = r.length := Nat.mod_eq_of_lt hlen
  obtain ⟨hk, ha⟩ | hk := hk
  · rw [xRequestPacket, Request.ofPacket_read (by simp [hk, field_place_same, field_place_disjoint])]
    simp [hk, ha, hmod, field_place_same, field_place_disjoint]
  · rw [xRequestPacket, Request.ofPacket_write (by simp [hk, field_place_same, field_place_disjoint])]
    simp [hk, hmod, field_place_same, field_place_disjoint]

theorem xRequestPacket_unused (r : Request) (a : BitVec 40) (tag : BitVec 8) (priv : Bool) :
    let w := (xRequestPacket r a tag priv).word0
    field w 6 2 = 0 ∧ w.getLsbD 23 = false ∧ w.getLsbD 5 = r.ack := by
  simp [xRequestPacket, field_place_disjoint]

/-! ### Packets for M (section 3.7, "M link") -/

theorem memReadPacket_fields (d : Fin 8) (ep : Bool) (a : BitVec 36) {n : Nat} (hn : n < 128) :
    let w := (memReadPacket d ep a n).word0
    field w 0 4 = 1 ∧ (field w 8 3).toNat = d.val ∧ w.getLsbD 11 = ep ∧ (field w 16 7).toNat = n ∧ field w 28 36 = a
      ∧ field w 4 4 = 0 ∧ field w 12 4 = 0 ∧ field w 23 5 = 0 := by
  simp [memReadPacket, field_place_same, field_place_disjoint, Nat.mod_eq_of_lt hn]

theorem memSweepPacket_fields (d : Fin 8) (ep : Bool) (row : BitVec 20) :
    let w := (memSweepPacket d ep row).word0
    field w 0 4 = 3 ∧ (field w 8 3).toNat = d.val ∧ w.getLsbD 11 = ep ∧ field w 16 20 = row
      ∧ field w 4 4 = 0 ∧ field w 12 4 = 0 ∧ field w 36 28 = 0 := by
  simp [memSweepPacket, field_place_same, field_place_disjoint]

theorem memWritePacket_fields (d : Fin 8) (ep : Bool) (line : BitVec 30) (bytes : LineImage) :
    let w := (memWritePacket d ep line bytes).word0
    field w 0 4 = 2 ∧ (field w 8 3).toNat = d.val ∧ w.getLsbD 11 = ep ∧ field w 4 4 = 0 ∧ field w 12 16 = 0
      ∧ field w 28 6 = 0 ∧ field w 34 30 = line := by
  have hlow : field (place 28 (line ++ 0#6)) 28 6 = 0 :=
    (field_place_within (lo := 28) (k := 0) (n := 6) (line ++ 0#6) (by decide)).trans BitVec.extractLsb'_append_eq_right
  have hhigh : field (place 28 (line ++ 0#6)) 34 30 = line :=
    (field_place_within (lo := 28) (k := 6) (n := 30) (line ++ 0#6) (by decide)).trans BitVec.extractLsb'_append_eq_left
  simp [memWritePacket, field_place_same, field_place_disjoint, hlow, hhigh]

/-- The mask of a line has the bit of each byte whose flag is set. -/
theorem LineImage.getLsbD_mask {l : LineImage} {i : Nat} (hi : i < 64) :
    (LineImage.mask l).getLsbD i = true ↔ ∃ b, l[i]? = some (some b) := by
  induction l generalizing i with
  | nil => simp [LineImage.mask]
  | cons x l ih =>
    have hmask : LineImage.mask (x :: l) = (LineImage.mask l <<< 1) ||| (if x.isSome then 1 else 0) := rfl
    rw [hmask]
    cases i with
    | zero => cases x <;> simp
    | succ i =>
      rw [List.getElem?_cons_succ, ← ih (by omega)]
      cases x <;> simp [hi, BitVec.getLsbD_eq_getElem (show i < 64 by omega)]

theorem LineImage.getElem?_data {l : LineImage} {i : Nat} (hi : i < l.length) :
    (LineImage.data l)[i]? = some ((l[i]?.join).getD 0) := by
  simp [LineImage.data, List.getElem?_eq_getElem hi]

theorem MemResult.ofCode_iff (c : BitVec 2) :
    (MemResult.ofCode c = .good ↔ c.toNat = 0) ∧ (MemResult.ofCode c = .corrected ↔ c.toNat = 1)
      ∧ (MemResult.ofCode c = .uncorrectable ↔ c.toNat = 2) ∧ (MemResult.ofCode c = .failed ↔ c.toNat = 3) := by
  have hlt := c.isLt
  unfold MemResult.ofCode
  split <;> simp_all
  omega

/-! ### Packets for requesters (section 3.7) -/

theorem completionPacket_fields (tag : BitVec 8) (st : Status) (value : Option Word64) {data : List Byte}
    (hd : data.length < 128) :
    let w := (completionPacket tag st value data).word0
    field w 0 4 = 8 ∧ field w 8 8 = tag ∧ field w 16 4 = st.code ∧ (field w 24 7).toNat = data.length
      ∧ w.getLsbD 31 = value.isSome ∧ field w 4 4 = 0 ∧ field w 20 4 = 0 ∧ field w 32 32 = 0 := by
  simp [completionPacket, field_place_same, field_place_disjoint, Nat.mod_eq_of_lt hd]

theorem creditPacket_fields {n : Nat} (hn : n < 16) :
    let w := (creditPacket n).word0
    field w 0 4 = 9 ∧ (field w 16 4).toNat = n ∧ field w 4 12 = 0 ∧ field w 20 44 = 0 := by
  simp [creditPacket, field_place_same, field_place_disjoint, Nat.mod_eq_of_lt hn]

theorem noticePacket_unused (seq : BitVec 16) (kind : RecordKind) (p : Option Port) :
    let w := (noticePacket seq kind p).word0
    field w 4 12 = 0 ∧ field w 37 3 = 0 ∧ field w 43 21 = 0 := by
  simp [noticePacket, field_place_disjoint]

/-- Settles O11: the fields of each packet, then the codes. -/
theorem packetFieldsStandWhereTheLayoutPutsThem : Obligations.PacketFieldsStandWhereTheLayoutPutsThem := by
  refine ⟨fun priv j k tag len addr w1 data => Request.ofPacket_readWord priv k tag len addr w1 data j,
    fun priv ack j k tag len addr w1 data => Request.ofPacket_writeWord priv ack k tag len addr w1 data j,
    fun j tag k w1 data => Request.ofPacket_flushWord tag w1 data j k, ?control, ?forwarded, ?unknown,
    fun d ep a n hn => ?memRead, fun d ep line bytes hb => ?memWrite, fun d ep row => ?memSweep, fun pkt => ?memResp,
    fun tag st value data hd => ?completion, fun n hn => ?credit, fun seq kind p => ?notice,
    fun st => by cases st <;> rfl, fun k => by cases k <;> rfl, fun g => by cases g <;> rfl, fun d => by cases d <;> rfl,
    fun p => by cases p <;> rfl, ?favoured, ?address⟩
  case control =>
    intro j tag obj idx k w1 data
    obtain ⟨hk4, ht4, ho4, hi4⟩ := controlWord_fields 4#4 j tag obj idx k
    obtain ⟨hk5, ht5, ho5, hi5⟩ := controlWord_fields 5#4 j tag obj idx k
    obtain ⟨hk6, ht6, ho6, -⟩ := controlWord_fields 6#4 j tag obj idx k
    rw [Request.ofPacket_ctrlRead hk4, Request.ofPacket_ctrlWrite hk5, Request.ofPacket_ctrlAction hk6, ht4, ho4, hi4, ht5, ho5,
      hi5, ht6, ho6]
    exact ⟨rfl, rfl, rfl⟩
  case forwarded =>
    intro r a tag priv hlen hk
    obtain ⟨h6, h23, h5⟩ := xRequestPacket_unused r a tag priv
    exact ⟨Request.ofPacket_xRequestPacket hlen hk a tag priv, h6, h23, fun hr =>
      h5.trans (hk.elim (fun h => h.2) fun h => by rw [hr] at h; cases h)⟩
  case unknown => exact fun pkt h => ⟨ReqKind.ofCode_of_unknown h, rfl⟩
  case memRead =>
    obtain ⟨h1, h2, h3, h4, h5, h6, h7, h8⟩ := memReadPacket_fields d ep a hn
    exact ⟨h1, h2, h3, h4, h5, h6, h7, h8, rfl, rfl⟩
  case memWrite =>
    obtain ⟨h1, h2, h3, h4, h5, h6, h7⟩ := memWritePacket_fields d ep line bytes
    refine ⟨h1, h2, h3, h4, h5, h6, h7, ⟨_, rfl, fun i hi => LineImage.getLsbD_mask hi⟩, ?_, fun i hi =>
      LineImage.getElem?_data (by rwa [hb])⟩
    simp [memWritePacket, LineImage.data, hb]
  case memSweep =>
    obtain ⟨h1, h2, h3, h4, h5, h6, h7⟩ := memSweepPacket_fields d ep row
    exact ⟨h1, h2, h3, h4, h5, h6, h7, rfl, rfl⟩
  case memResp =>
    obtain ⟨hg, hc, hu, hf⟩ := MemResult.ofCode_iff (field pkt.word0 24 2)
    exact ⟨rfl, rfl, rfl, rfl, hg, hc, hu, hf⟩
  case completion =>
    obtain ⟨h1, h2, h3, h4, h5, h6, h7, h8⟩ := completionPacket_fields tag st value hd
    exact ⟨h1, h2, h3, h4, h5, h6, h7, h8, rfl, rfl⟩
  case credit =>
    obtain ⟨h1, h2, h3, h4⟩ := creditPacket_fields hn
    exact ⟨h1, h2, h3, h4, rfl, rfl⟩
  case notice =>
    obtain ⟨h1, h2, h3⟩ := noticePacket_unused seq kind p
    refine ⟨noticePacket_kind _ _ _, noticePacket_sequence _ _ _, noticePacket_recordKind _ _ _, ?_, h1, h2, h3, rfl, rfl⟩
    rw [noticePacket_port]
    cases p with
    | none => rfl
    | some p => cases p <;> rfl
  case favoured =>
    intro f
    cases f with
    | none => rfl
    | some p => cases p <;> rfl
  case address =>
    intro a
    cases a <;> exact ⟨rfl, by simp [RecordAddr.value] <;> omega⟩

/-! ### Region entries (section 3.7, R2) -/

section
variable {e e' : RegionEntry} {v : Word64}

theorem RegionEntry.word0_fields (e : RegionEntry) :
    field e.word0 0 28 = e.base ∧ field e.word0 28 28 = e.limit ∧ field e.word0 56 2 = e.target.code
      ∧ e.word0.getLsbD 58 = e.combine ∧ field e.word0 59 4 = 0 ∧ e.word0.getLsbD 63 = e.valid := by
  simp [RegionEntry.word0, field_place_same, field_place_disjoint]

theorem RegionEntry.word1_fields (e : RegionEntry) :
    field e.word1 0 4 = portFlags e.read ∧ field e.word1 4 4 = portFlags e.write ∧ field e.word1 8 24 = 0
      ∧ field e.word1 32 29 = e.offset ∧ field e.word1 61 3 = 0 := by
  simp [RegionEntry.word1, field_place_same, field_place_disjoint]

/-- Four flags stand at their ports' numbers. -/
theorem getLsbD_portFlags (x : PerPort Bool) (p : Port) : (portFlags x).getLsbD p.code = x.get p := by
  obtain ⟨x0, x1, x2, x3⟩ := x
  cases p <;> cases x0 <;> cases x1 <;> cases x2 <;> cases x3 <;> rfl

theorem Port.code_lt (p : Port) : p.code < 4 := by cases p <;> decide

/-- Four flags are read back from a field that holds them (U0 at its lowest bit). -/
theorem getLsbD_of_portFlags {lo : Nat} {x : PerPort Bool} (h : field v lo 4 = portFlags x) (p : Port) :
    v.getLsbD (lo + p.code) = x.get p := by
  have hp := Port.code_lt p
  rw [getLsbD_eq_field (lo := lo) (n := 4) (by omega) (by omega), h, Nat.add_sub_cancel_left, getLsbD_portFlags]

theorem portFlagsAt_of_field {lo : Nat} {x : PerPort Bool} (h : field v lo 4 = portFlags x) : portFlagsAt v lo = x :=
  PerPort.ext_get fun p => by
    rw [← getLsbD_of_portFlags h p]
    cases p <;> rfl

/-- Two words that agree in the fields of the range word are the same. -/
theorem RegionEntry.word0_ext {w v : Word64} (h0 : field w 0 28 = field v 0 28) (h28 : field w 28 28 = field v 28 28)
    (h56 : field w 56 2 = field v 56 2) (h58 : w.getLsbD 58 = v.getLsbD 58) (h59 : field w 59 4 = field v 59 4)
    (h63 : w.getLsbD 63 = v.getLsbD 63) : w = v := by
  refine BitVec.eq_of_getLsbD_eq fun i hi => ?_
  have hrange : i < 28 ∨ 28 ≤ i ∧ i < 56 ∨ 56 ≤ i ∧ i < 58 ∨ i = 58 ∨ 59 ≤ i ∧ i < 63 ∨ i = 63 := by omega
  obtain hr | ⟨hl, hr⟩ | ⟨hl, hr⟩ | rfl | ⟨hl, hr⟩ | rfl := hrange
  · exact getLsbD_of_field_eq h0 (Nat.zero_le i) hr
  · exact getLsbD_of_field_eq h28 hl hr
  · exact getLsbD_of_field_eq h56 hl hr
  · exact h58
  · exact getLsbD_of_field_eq h59 hl hr
  · exact h63

theorem RegionEntry.word1_ext {w v : Word64} (h0 : field w 0 4 = field v 0 4) (h4 : field w 4 4 = field v 4 4)
    (h8 : field w 8 24 = field v 8 24) (h32 : field w 32 29 = field v 32 29) (h61 : field w 61 3 = field v 61 3) : w = v := by
  refine BitVec.eq_of_getLsbD_eq fun i hi => ?_
  have hrange : i < 4 ∨ 4 ≤ i ∧ i < 8 ∨ 8 ≤ i ∧ i < 32 ∨ 32 ≤ i ∧ i < 61 ∨ 61 ≤ i ∧ i < 64 := by omega
  obtain hr | ⟨hl, hr⟩ | ⟨hl, hr⟩ | ⟨hl, hr⟩ | ⟨hl, hr⟩ := hrange
  · exact getLsbD_of_field_eq h0 (Nat.zero_le i) hr
  · exact getLsbD_of_field_eq h4 hl hr
  · exact getLsbD_of_field_eq h8 hl hr
  · exact getLsbD_of_field_eq h32 hl hr
  · exact getLsbD_of_field_eq h61 hl hr

/-- An entry is read back from its two words. -/
theorem RegionEntry.withWords (e e₀ : RegionEntry) (ho : e.offset.toInt ≠ -2 ^ 28) :
    ((e₀.withWord0 e.word0).bind fun e₁ => e₁.withWord1 e.word1) = some e := by
  obtain ⟨hbase, hlimit, htarget, hcombine, hunused, hvalid⟩ := e.word0_fields
  obtain ⟨hread, hwrite, h8, hoffset, h61⟩ := e.word1_fields
  rw [RegionEntry.withWord0_of_encodes htarget hunused, Option.bind_some, RegionEntry.withWord1,
    if_neg (by simp [h8, h61, hoffset, mt (offset_eq_intMin_iff _).mp ho]), portFlagsAt_of_field hread,
    portFlagsAt_of_field hwrite, hoffset, hbase, hlimit, hcombine, hvalid]

theorem RegionTarget.code_of_ofCode {c : BitVec 2} {t : RegionTarget} (h : RegionTarget.ofCode c = some t) : t.code = c := by
  unfold RegionTarget.ofCode at h
  refine BitVec.eq_of_toNat_eq ?_
  split at h <;> cases h <;> exact Eq.symm (by assumption)

/-- The range word that an accepted value leaves is that value, and the rights word stays. -/
theorem RegionEntry.word0_of_withWord0 (h : e.withWord0 v = some e') : e'.word0 = v ∧ e'.word1 = e.word1 := by
  unfold RegionEntry.withWord0 at h
  split at h
  · cases h
  · next hunused =>
    split at h
    · cases h
    · next t ht =>
      cases h
      obtain ⟨hbase, hlimit, htarget, hcombine, hzero, hvalid⟩ := RegionEntry.word0_fields
        { e with base := field v 0 28, limit := field v 28 28, target := t, combine := flagAt v 58, valid := flagAt v 63 }
      exact ⟨RegionEntry.word0_ext hbase hlimit (htarget.trans (RegionTarget.code_of_ofCode ht)) hcombine
        (hzero.trans (not_not.mp hunused).symm) hvalid, rfl⟩

theorem portFlags_portFlagsAt (v : Word64) (lo : Nat) : portFlags (portFlagsAt v lo) = field v lo 4 := by
  refine BitVec.eq_of_getLsbD_eq fun i hi => ?_
  obtain ⟨p, rfl⟩ : ∃ p : Port, p.code = i := by
    obtain rfl | rfl | rfl | rfl : i = 0 ∨ i = 1 ∨ i = 2 ∨ i = 3 := by omega
    exacts [⟨.u0, rfl⟩, ⟨.u1, rfl⟩, ⟨.u2, rfl⟩, ⟨.u3, rfl⟩]
  have hbit : (portFlagsAt v lo).get p = v.getLsbD (lo + p.code) := by cases p <;> rfl
  rw [getLsbD_portFlags, hbit, getLsbD_eq_field (lo := lo) (n := 4) (by omega) (by omega), Nat.add_sub_cancel_left]

/-- The rights word that an accepted value leaves is that value, and the range word stays. -/
theorem RegionEntry.word1_of_withWord1 (h : e.withWord1 v = some e') : e'.word1 = v ∧ e'.word0 = e.word0 := by
  unfold RegionEntry.withWord1 at h
  split at h
  · cases h
  · next hok =>
    cases h
    obtain ⟨h8, h61, -⟩ := not_or.mp hok |>.imp_right not_or.mp
    obtain ⟨hread, hwrite, hz8, hoffset, hz61⟩ := RegionEntry.word1_fields
      { e with read := portFlagsAt v 0, write := portFlagsAt v 4, offset := field v 32 29 }
    exact ⟨RegionEntry.word1_ext (hread.trans (portFlags_portFlagsAt v 0)) (hwrite.trans (portFlags_portFlagsAt v 4))
      (hz8.trans (not_not.mp h8).symm) hoffset (hz61.trans (not_not.mp h61).symm), rfl⟩

end

/-! ### Window descriptors (section 3.7, R23) -/

theorem WindowDesc.word_fields (d : WindowDesc) :
    field d.word 0 28 = d.base ∧ field d.word 28 9 = BitVec.ofNat 9 d.size ∧ field d.word 37 3 = 0
      ∧ field d.word 40 24 = d.memBase := by
  simp [WindowDesc.word, field_place_same, field_place_disjoint]

/-- A descriptor in range is read back from its word. -/
theorem WindowDesc.ofWord_word {d : WindowDesc}
    (h : d.size = 0 ∨ d.size ≤ 256 ∧ d.base.toNat + d.size ≤ 2 ^ 28 ∧ d.memBase.toNat + d.size ≤ 2 ^ 24) :
    WindowDesc.ofWord d.word = some d := by
  obtain ⟨hbase, hsize, hunused, hmem⟩ := d.word_fields
  have hd : WindowDesc.ofFields d.word = d := by
    simp [WindowDesc.ofFields, hbase, hsize, hmem, Nat.mod_eq_of_lt (show d.size < 512 by omega)]
  have hok : ¬WindowDesc.BadWord d.word := by
    simp only [WindowDesc.BadWord, hd, hunused]
    simp
    omega
  rw [WindowDesc.ofWord_of_not_bad hok, hd]

/-- An accepted value is the word of the descriptor that it encodes. -/
theorem WindowDesc.word_of_ofWord {d : WindowDesc} {v : Word64} (h : WindowDesc.ofWord v = some d) : d.word = v := by
  by_cases hbad : WindowDesc.BadWord v
  · rw [WindowDesc.ofWord_of_bad hbad] at h
    cases h
  · obtain ⟨hunused, -⟩ := not_or.mp hbad
    rw [WindowDesc.ofWord_of_not_bad hbad] at h
    cases h
    obtain ⟨hbase, hsize, hzero, hmem⟩ := (WindowDesc.ofFields v).word_fields
    have hsize' : field (WindowDesc.ofFields v).word 28 9 = field v 28 9 := hsize.trans (BitVec.ofNat_toNat _ _ |>.trans rfl)
    refine BitVec.eq_of_getLsbD_eq fun i hi => ?_
    have hrange : i < 28 ∨ 28 ≤ i ∧ i < 37 ∨ 37 ≤ i ∧ i < 40 ∨ 40 ≤ i ∧ i < 64 := by omega
    obtain hr | ⟨hl, hr⟩ | ⟨hl, hr⟩ | ⟨hl, hr⟩ := hrange
    · exact getLsbD_of_field_eq hbase (Nat.zero_le i) hr
    · exact getLsbD_of_field_eq hsize' hl hr
    · exact getLsbD_of_field_eq (hzero.trans (not_not.mp hunused).symm) hl hr
    · exact getLsbD_of_field_eq hmem hl hr

/-! ### Rights (R165) -/

theorem flagAt_eq_decide (v : Word64) (i : Nat) : flagAt v i = decide (v.toNat / 2 ^ i % 2 = 1) := by
  rw [flagAt, BitVec.getLsbD, Nat.testBit_eq_decide_div_mod_eq]

theorem Rights.value_le {r : Rights} (h : r.quota ≤ 8) : r.value ≤ 2055 := by
  have hm := r.management.toNat_le
  have hp := r.privilege.toNat_le
  have hw := r.window.toNat_le
  unfold Rights.value
  omega

/-- The parts of a rights value: the three rights in its low byte, the quota above (R165). -/
theorem Rights.value_parts (r : Rights) :
    r.value % 256 < 8 ∧ r.value / 256 = r.quota ∧ decide (r.value / 2 ^ 0 % 2 = 1) = r.management
      ∧ decide (r.value / 2 ^ 1 % 2 = 1) = r.privilege ∧ decide (r.value / 2 ^ 2 % 2 = 1) = r.window := by
  obtain ⟨m, p, w, quota⟩ := r
  unfold Rights.value
  cases m <;> cases p <;> cases w <;> simp <;> omega

/-- Rights with a legal quota are read back from their value. -/
theorem Rights.ofValue_value {r : Rights} (h1 : 1 ≤ r.quota) (h8 : r.quota ≤ 8) :
    Rights.ofValue (BitVec.ofNat 64 r.value) = some r := by
  obtain ⟨hlow, hquota, hm, hp, hw⟩ := r.value_parts
  have hle := Rights.value_le h8
  have hnat : (BitVec.ofNat 64 r.value).toNat = r.value := by
    rw [BitVec.toNat_ofNat]
    exact Nat.mod_eq_of_lt (by omega)
  simp only [Rights.ofValue, flagAt_eq_decide, hnat, hm, hp, hw, hquota]
  rw [if_pos ⟨hlow, h1, h8⟩]

/-- An accepted value is the value of the rights that it encodes. -/
theorem Rights.value_of_ofValue {r : Rights} {v : Word64} (h : Rights.ofValue v = some r) : BitVec.ofNat 64 r.value = v := by
  by_cases hl : Rights.Legal v
  · obtain ⟨hlow, -⟩ := id hl
    rw [Rights.ofValue, if_pos hl] at h
    cases h
    have hbit (n : Nat) : (decide (n % 2 = 1)).toNat = n % 2 := by
      obtain h | h := Nat.mod_two_eq_zero_or_one n <;> rw [h] <;> rfl
    have hval : Rights.value ⟨flagAt v 0, flagAt v 1, flagAt v 2, v.toNat / 256⟩ = v.toNat := by
      simp only [Rights.value, flagAt_eq_decide, hbit]
      omega
    rw [hval, BitVec.ofNat_toNat]
    rfl
  · rw [Rights.ofValue_of_not_legal hl] at h
    cases h

/-! ### Records (section 3.7, R176) -/

theorem recordWord_fields (seq : BitVec 16) (kind : BitVec 5) (port : BitVec 3) (tag : BitVec 5) (target : BitVec 2) (counted : Bool)
    (region : BitVec 6) (gen : BitVec 8) (count : BitVec 16) :
    let w := place 0 seq ||| place 16 kind ||| place 21 port ||| place 24 tag ||| place 29 target ||| place 31 (bit counted)
      ||| place 32 region ||| place 40 gen ||| place 48 count
    field w 0 16 = seq ∧ field w 16 5 = kind ∧ field w 21 3 = port ∧ field w 24 5 = tag ∧ field w 29 2 = target
      ∧ w.getLsbD 31 = counted ∧ field w 32 6 = region ∧ field w 38 2 = 0 ∧ field w 40 8 = gen ∧ field w 48 16 = count := by
  simp [field_place_same, field_place_disjoint]

/-- The second word of a record: the address part and the contributors' part. -/
theorem ErrorRecord.word1_fields (r : ErrorRecord) :
    field r.word1 0 40 = (match r.addr with | some a => a.value | none => 0)
      ∧ field r.word1 40 3 = (match r.addr with | some a => a.kindCode | none => 0)
      ∧ field r.word1 43 5 = 0
      ∧ field r.word1 48 4 = (match r.contributors with | some c => portFlags c | none => 0)
      ∧ field r.word1 52 1 = bit r.contributors.isSome
      ∧ field r.word1 53 11 = 0 := by
  have hzero (lo n : Nat) : field 0#64 lo n = 0#n := by ext i hi; simp [field]
  unfold ErrorRecord.word1
  cases r.addr <;> cases r.contributors <;> simp [field_place_same, field_place_disjoint, hzero, bit]

theorem ErrorRecord.contributors_bits (r : ErrorRecord) {i : Nat} (hi : i < 4) :
    r.word1.getLsbD (48 + i)
      = (match r.contributors, Port.ofCode i with | some c, some p => c.get p | _, _ => false) := by
  obtain ⟨-, -, -, hflags, -, -⟩ := r.word1_fields
  obtain ⟨p, rfl⟩ : ∃ p : Port, p.code = i := by
    obtain rfl | rfl | rfl | rfl : i = 0 ∨ i = 1 ∨ i = 2 ∨ i = 3 := by omega
    exacts [⟨.u0, rfl⟩, ⟨.u1, rfl⟩, ⟨.u2, rfl⟩, ⟨.u3, rfl⟩]
  rw [Port.ofCode_code]
  cases hc : r.contributors with
  | none =>
    rw [hc] at hflags
    exact getLsbD_of_field_zero hflags (by omega) (by omega)
  | some c =>
    rw [hc] at hflags
    exact getLsbD_of_portFlags hflags p

/-- Settles O50: each encoding read back from its word, each accepted word from what it encodes, and the record's fields. -/
theorem controlValuesAndRecordsKeepTheirFields : Obligations.ControlValuesAndRecordsKeepTheirFields := by
  refine ⟨fun e e₀ ho => RegionEntry.withWords e e₀ ho, fun e e' v h => RegionEntry.word0_of_withWord0 h,
    fun e e' v h => RegionEntry.word1_of_withWord1 h, fun d h => WindowDesc.ofWord_word h,
    fun d v h => WindowDesc.word_of_ofWord h, fun r h1 h8 => Rights.ofValue_value h1 h8,
    fun r v h => Rights.value_of_ofValue h, fun e => ?_⟩
  intro w
  obtain ⟨hseq, hkind, hport, htag, htarget, hcount, hregion, hzero, hgen, hnum⟩ := recordWord_fields e.sequence e.record.kind.code
    (portField e.record.port) (match e.record.tag with | some t => t.setWidth 5 | none => (31 : BitVec 5))
    (RecordTarget.field e.record.target) e.record.count.isSome
    (match e.record.region with | some (i, _) => i.code | none => (63 : BitVec 6))
    (match e.record.region with | some (_, g) => g | none => (0 : BitVec 8))
    (match e.record.count with | some n => BitVec.ofNat 16 n | none => 0)
  obtain ⟨haddr, hakind, h43, -, h52, h53⟩ := e.record.word1_fields
  refine ⟨hseq, hkind, (congrArg BitVec.toNat hport).trans ?port, htag, htarget.trans ?target, hcount, hregion.trans ?region, hzero,
    hgen, hnum, haddr, hakind, h43, fun i hi => e.record.contributors_bits hi, flag_of_field h52, h53⟩
  case port => exact portField_toNat _
  case target =>
    cases e.record.target with
    | none => rfl
    | some t => cases t <;> rfl
  case region =>
    cases e.record.region with
    | none => rfl
    | some x =>
      obtain ⟨i, g⟩ := x
      cases i <;> rfl

end Sys2Proof.Machine
end

section
/-! The control objects that are read and written as they stand (sections 10.2 and 3.7). -/

namespace Sys2Proof.Machine

open Sys2Proof.Word64 (field)

section
variable {s u : State} {p : Port} {r : Request} {o : Obj}

/-! ### The service of an object -/

theorem serveObject_of_read (hk : r.kind = .ctrlRead) (ho : Obj.ofCode r.code = some o) :
    serveObject p r s = { state := s, status := .ok, value := s.objectValue o r.index } := by
  simp only [serveObject, ho, hk]
  rfl

theorem serveObject_of_set (hk : r.kind = .ctrlWrite) (ho : Obj.ofCode r.code = some o)
    (hw : s.writeSetting o r.value.toNat = some u) : serveObject p r s = { state := u, status := .ok } := by
  simp only [serveObject, ho, hk, if_true, hw]

theorem serveObject_of_refused (hk : r.kind = .ctrlWrite) (ho : Obj.ofCode r.code = some o)
    (hw : s.writeSetting o r.value.toNat = none) : serveObject p r s = { state := s, status := .invalid } := by
  simp only [serveObject, ho, hk, if_true, hw]

/-- The selection changes no value that an object carries. -/
theorem State.objectValue_select (o : Obj) (i : Nat) : (s.select p).objectValue o i = s.objectValue o i := by
  have hport (q : Port) : ((s.select p).ports.get q).rights = (s.ports.get q).rights
      ∧ ((s.select p).ports.get q).state = (s.ports.get q).state
      ∧ ((s.select p).ports.get q).discarded = (s.ports.get q).discarded := by
    by_cases hq : q = p
    · subst hq; simp [PortBlock.leave]
    · simp [hq]
  cases o with
  | portRights => exact congrArg (fun x : Rights => BitVec.ofNat 64 x.value) (hport _).1
  | portState => exact congrArg (fun x : PortState => BitVec.ofNat 64 x.code) (hport _).2.1
  | discarded => exact congrArg (BitVec.ofNat 64) (hport _).2.2
  | _ => rfl

/-- A setting is written the same before and after the selection. -/
theorem State.writeSetting_select (o : Obj) (n : Nat) :
    (s.select p).writeSetting o n = (s.writeSetting o n).map (·.select p) := by
  cases o with
  | holdBudget | watermark | timeoutM | timeoutX | noticeEnable => simp only [State.writeSetting]; split <;> rfl
  | noticePort => simp only [State.writeSetting, Option.map_map]; rfl
  | _ => rfl

theorem State.writeSetting_ports {n : Nat} (h : s.writeSetting o n = some u) : u.ports = s.ports := by
  cases o with
  | holdBudget | watermark | timeoutM | timeoutX | noticeEnable =>
    simp only [State.writeSetting, Option.ite_none_right_eq_some, Option.some.injEq] at h
    rw [← h.2]
  | noticePort =>
    obtain ⟨q, -, rfl⟩ := Option.map_eq_some_iff.mp h
    rfl
  | _ => cases h

/-- A read of an object, as a command: its value, and nothing changes. -/
theorem exec_object_of_read (h : s.Serves p r .object) (hk : r.kind = .ctrlRead) (ho : Obj.ofCode r.code = some o) :
    exec .ctrlWriteObject s = .next (s.afterService p r .ok (s.objectValue o r.index)) :=
  congrArg Host.Outcome.next (State.close_serve_unchanged h
    ((serveObject_of_read hk ho).trans (by rw [State.objectValue_select])))

/-- A setting written, as a command. -/
theorem exec_object_of_set (h : s.Serves p r .object) (hk : r.kind = .ctrlWrite) (ho : Obj.ofCode r.code = some o)
    (hw : s.writeSetting o r.value.toNat = some u) : exec .ctrlWriteObject s = .next (u.afterService p r .ok 0) :=
  exec_command_of_served h (State.writeSetting_ports hw)
    (serveObject_of_set (p := p) hk ho (by rw [State.writeSetting_select, hw]; rfl))

/-- A value out of range, as a command. -/
theorem exec_object_of_refused (h : s.Serves p r .object) (hk : r.kind = .ctrlWrite) (ho : Obj.ofCode r.code = some o)
    (hw : s.writeSetting o r.value.toNat = none) : exec .ctrlWriteObject s = .next (s.afterService p r .invalid 0) :=
  exec_command_of_invalid h (serveObject_of_refused (p := p) hk ho (by rw [State.writeSetting_select, hw]; rfl))

/-- A setting with a range: written inside it, refused outside. -/
theorem exec_object_of_range (h : s.Serves p r .object) (hk : r.kind = .ctrlWrite) (ho : Obj.ofCode r.code = some o) {c : Prop}
    [Decidable c] (hw : s.writeSetting o r.value.toNat = if c then some u else none) :
    if c then exec .ctrlWriteObject s = .next (u.afterService p r .ok 0)
    else exec .ctrlWriteObject s = .next (s.afterService p r .invalid 0) := by
  split
  · next hc => exact exec_object_of_set h hk ho (hw.trans (if_pos hc))
  · next hc => exact exec_object_of_refused h hk ho (hw.trans (if_neg hc))

/-! ### The codes that are served so (R161, R162) -/

/-- A control request that is served has the management right behind it. -/
theorem Request.managed_of_checks {rights : Rights} (h : r.checks rights = none) : rights.management = true := by
  by_contra hm
  rw [Request.checks_of_unmanaged (by simpa using hm)] at h
  cases h

theorem Request.code_range_of_checks {rights : Rights} (h : r.checks rights = none) (hk : r.kind ≠ .ctrlAction) :
    1 ≤ r.code ∧ r.code ≤ 28 := by
  by_contra hno
  rw [Request.checks_of_no_object (Request.managed_of_checks h) hk (Obj.ofCode_eq_none (by omega))] at h
  cases h

/-- The writable objects without a row of their own. -/
theorem plain_settings : ∀ k : Fin 28, k.val + 1 ∉ readOnlyCodes → CtrlRow.ofWrite (k.val + 1) = .object →
    k.val + 1 ∈ [12, 13, 15, 16, 26, 27] := by
  decide

theorem Request.code_of_plain_write {rights : Rights} (h : r.checks rights = none) (hk : r.kind = .ctrlWrite)
    (hrow : r.row = .object) : r.code ∈ [12, 13, 15, 16, 26, 27] := by
  have hne : r.kind ≠ .ctrlAction := by simp [hk]
  obtain ⟨h1, h28⟩ := Request.code_range_of_checks h hne
  obtain ⟨o, ho, hro, -⟩ := Obj.ofCode_of_range h1 h28
  have hwritable : r.code ∉ readOnlyCodes := fun hmem => by
    rw [Request.checks_of_object (Request.managed_of_checks h) hne ho, if_pos ⟨hk, hro.mpr hmem⟩] at h
    cases h
  have hplain := plain_settings ⟨r.code - 1, by omega⟩
  simp only [Nat.sub_add_cancel h1] at hplain
  exact hplain hwritable (Request.row_of_write hk ▸ hrow)

/-! ### The values of the objects (section 3.7) -/

theorem RegionTable.word_even {t : RegionTable} {n : Nat} {i : Fin 32} (h : n = 2 * i.val) : t.word n = t.entries[i].word0 := by
  subst h
  have hdiv : 2 * i.val / 2 = i.val := by omega
  simp [RegionTable.word, hdiv]

theorem RegionTable.word_odd {t : RegionTable} {n : Nat} {i : Fin 32} (h : n = 2 * i.val + 1) :
    t.word n = t.entries[i].word1 := by
  subst h
  have hdiv : (2 * i.val + 1) / 2 = i.val := by omega
  have hmod : (2 * i.val + 1) % 2 = 1 := by omega
  simp [RegionTable.word, hdiv, hmod]

theorem RegionTarget.toNat_code (t : RegionTarget) :
    t.code.toNat = match t with | .refuse => 0 | .memory => 1 | .extension => 2 := by
  cases t <;> rfl

theorem State.portAt_code {n : Nat} {q : Port} (h : n = q.code) : s.portAt n = s.ports.get q := by
  rw [State.portAt, h, Port.ofCode_code]
  rfl

theorem emptyLogWord0_fields (seq : BitVec 16) :
    let v := emptyLogWord0 seq
    field v 0 16 = seq ∧ field v 16 5 = 0 ∧ field v 21 3 = 7 ∧ field v 24 5 = 31 ∧ field v 29 2 = 0 ∧ v.getLsbD 31 = false
      ∧ field v 32 6 = 63 ∧ field v 38 26 = 0 := by
  simp [emptyLogWord0, field_place_same, field_place_disjoint, portField]

theorem bridgeInfo_getD {i : Nat} {v : Word64} (h : ([1, 4, 8, 32, 16, 24, 8, 8, 8, 4] : List Word64)[i]? = some v) :
    BitVec.ofNat 64 (Config.bridgeInfo.getD i 0) = v := by
  have hmap : ([1, 4, 8, 32, 16, 24, 8, 8, 8, 4] : List Word64) = Config.bridgeInfo.map (BitVec.ofNat 64) := rfl
  rw [hmap, List.getElem?_map] at h
  obtain ⟨n, hn, rfl⟩ := Option.map_eq_some_iff.mp h
  rw [List.getD_eq_getElem?_getD, hn, Option.getD_some]

end

/-- Settles O48: a write by the range of its setting, a read by the value of its object. -/
theorem objectsAreWrittenAndRead : Obligations.ObjectsAreWrittenAndRead := by
  intro s p r hs n invalid reads readsNat readsTable readsTarget readsBlock
  obtain ⟨⟨-, -, hrow⟩, hchecks⟩ := id hs
  refine ⟨fun hk => ?writes, fun hk => ?reads⟩
  case writes =>
    have range {o : Obj} {code : Nat} (ho : Obj.ofCode code = some o) {u : State} {c : Prop} [Decidable c]
        (hw : s.writeSetting o n = if c then some u else none) (hc : r.code = code) :
        if c then exec .ctrlWriteObject s = .next (u.afterService p r .ok 0) else invalid :=
      exec_object_of_range hs hk (by rw [hc]; exact ho) hw
    refine ⟨range rfl rfl, range rfl rfl, range rfl rfl, range rfl rfl, fun hc => ⟨fun q hq => ?_, fun hq => ?_⟩, range rfl rfl,
      Request.code_of_plain_write hchecks hk hrow⟩
    · refine exec_object_of_set (o := .noticePort) hs hk (by rw [hc]; rfl) ?_
      change (Port.ofCode n).map _ = _
      rw [hq, Port.ofCode_code]
      rfl
    · refine exec_object_of_refused (o := .noticePort) hs hk (by rw [hc]; rfl) ?_
      change (Port.ofCode n).map _ = _
      rw [Port.ofCode_eq_none hq]
      rfl
  case reads =>
    have read {o : Obj} {code : Nat} (ho : Obj.ofCode code = some o) {v : Word64} (hc : r.code = code)
        (hv : s.objectValue o r.index = v) : reads v := by
      rw [← hv]
      exact exec_object_of_read hs hk (by rw [hc]; exact ho)
    have table {o : Obj} {code : Nat} (ho : Obj.ofCode code = some o) {t : RegionTable} (hv : s.objectValue o r.index = t.word r.index)
        (hc : r.code = code) : readsTable t := by
      refine fun i => ⟨fun hi => ?_, fun hi => ?_⟩
      · obtain ⟨hbase, hlimit, htarget, hcombine, hunused, hvalid⟩ := t.entries[i].word0_fields
        exact ⟨_, read ho hc (hv.trans (RegionTable.word_even hi)), hbase, hlimit,
          (congrArg BitVec.toNat htarget).trans (RegionTarget.toNat_code _), hcombine, hunused, hvalid⟩
      · obtain ⟨hread, hwrite, h8, hoffset, h61⟩ := t.entries[i].word1_fields
        exact ⟨_, read ho hc (hv.trans (RegionTable.word_odd hi)),
          fun q => ⟨by simpa using getLsbD_of_portFlags hread q, getLsbD_of_portFlags hwrite q⟩, h8, hoffset, h61⟩
    have target {o : Obj} {code : Nat} (ho : Obj.ofCode code = some o) {d : DefaultTarget}
        (hv : s.objectValue o r.index = d.value) (hc : r.code = code) : readsTarget d :=
      read ho hc (hv.trans (by cases d <;> rfl))
    obtain ⟨hbase, hsize, hunused, hmem⟩ := s.window.desc.word_fields
    refine ⟨Request.code_range_of_checks hchecks (by simp [hk]), table rfl rfl, table rfl rfl, target rfl rfl, target rfl rfl,
      fun hc => read (o := .generation) rfl hc (BitVec.ofNat_toNat _ _).symm,
      fun hc => ⟨_, read (o := .window) rfl hc rfl, hbase, hsize, hunused, hmem⟩, fun hc => read (o := .windowState) rfl hc ?state,
      fun hc q hq => read (o := .portRights) rfl hc (congrArg (fun b : PortBlock => BitVec.ofNat 64 b.rights.value) (State.portAt_code hq)),
      fun hc q hq => read (o := .portState) rfl hc ?portState,
      fun hc q hq => read (o := .discarded) rfl hc (congrArg (fun b : PortBlock => BitVec.ofNat 64 b.discarded) (State.portAt_code hq)),
      fun hc => read (o := .favoured) rfl hc ?favoured,
      fun hc => read rfl hc rfl, fun hc => read rfl hc rfl, fun hc => read rfl hc rfl, fun hc => read rfl hc rfl,
      fun hc => read rfl hc rfl, fun hc => read rfl hc rfl, fun hc => read rfl hc rfl, fun hc => read rfl hc rfl,
      fun hc => read rfl hc rfl, fun hc => ⟨fun hi => read (o := .late) rfl hc ?lateM, fun hi => read (o := .late) rfl hc ?lateX⟩,
      fun hc => read rfl hc rfl, fun hc => read rfl hc rfl, fun hc => ⟨fun e rest hl => ?head, fun hl => ?empty⟩,
      fun hc => read rfl hc rfl, fun hc => read (o := .noticePort) rfl hc ?noticePort,
      fun hc => read (o := .noticeEnable) rfl hc ?noticeEnable, fun hc v hv => read (o := .bridgeInfo) rfl hc (bridgeInfo_getD hv)⟩
    case state => cases h : s.window.state <;> simp [State.objectValue, h, WindowState.code]
    case portState =>
      refine (congrArg (fun b : PortBlock => BitVec.ofNat 64 b.state.code) (State.portAt_code hq)).trans ?_
      cases hst : (s.ports.get q).state <;> simp [hst, PortState.code]
    case favoured =>
      cases h : s.sched.favoured with
      | none => simp [State.objectValue, h, favouredCode]
      | some q => cases q <;> simp [State.objectValue, h, favouredCode, Port.code]
    case lateM => simp [State.objectValue, hi]
    case lateX => simp [State.objectValue, hi]
    case head =>
      have hval (i : Nat) : s.objectValue .logHead i = if i = 0 then e.word0 else e.record.word1 := by
        simp [State.objectValue, ErrorLog.head, hl]
      exact ⟨fun hi => read (o := .logHead) rfl hc (by rw [hval, if_pos hi]),
        fun hi => read (o := .logHead) rfl hc (by rw [hval, hi]; rfl)⟩
    case empty =>
      have hval (i : Nat) : s.objectValue .logHead i = if i = 0 then emptyLogWord0 s.log.sequence else 0 := by
        simp [State.objectValue, ErrorLog.head, hl]
      exact ⟨fun hi => ⟨_, read (o := .logHead) rfl hc ((hval _).trans (if_pos hi)), emptyLogWord0_fields _⟩,
        fun hi => read (o := .logHead) rfl hc (by rw [hval, hi]; rfl)⟩
    case noticePort => cases h : s.log.noticePort <;> simp [State.objectValue, h, Port.code]
    case noticeEnable => cases h : s.log.noticeEnable <;> simp [State.objectValue, h]

end Sys2Proof.Machine
end

section
/-! What the end of an event makes of a port: the credits returned, the NOTICEs and the flags; and the warm reset (section 10.5). -/

namespace Sys2Proof.Machine

/-! ### The end of an event, port by port -/

section
variable {s t : State} {b : PortBlock} {p q : Port}

/-- What returning the owed credits makes of a block that is not DOWN, or is owed nothing (R40). -/
theorem PortBlock.returnCredits_eq (h : b.owed ≠ 0 → b.state ≠ .down) :
    b.returnCredits = { b with
      credits := b.credits + b.owed, owed := 0, out := b.out ++ if b.owed = 0 then [] else [creditPacket b.owed] } := by
  by_cases ho : b.owed = 0
  · rw [PortBlock.returnCredits_of_owed_zero ho, if_pos ho, List.append_nil, ho, Nat.add_zero, ← ho]
  · rw [PortBlock.returnCredits_of_owed ho (h ho), if_neg ho]

/-- The NOTICEs of an event depend on the log and on the port's state alone. -/
theorem State.notices_congr (hl : t.log = s.log) (hp : (t.ports.get p).state = (s.ports.get p).state)
    (rs : List ErrorRecord) : t.notices p rs = s.notices p rs := by
  unfold State.notices
  rw [hl, hp]

/-- A port at the end of an event that left it this block: the credits owed to it go out, then its NOTICEs. -/
theorem Event.close_port_of_block {e : Event} (hb : e.1.ports.get p = b) (hl : e.1.log = s.log)
    (hs : b.state = (s.ports.get p).state) (ho : b.owed ≠ 0 → b.state ≠ .down) :
    (Event.close e).ports.get p = { b with
      credits := b.credits + b.owed, owed := 0
      out := b.out ++ (if b.owed = 0 then [] else [creditPacket b.owed]) ++ s.notices p e.2 } := by
  have hnotices : State.notices { e.1 with ports := e.1.ports.map PortBlock.returnCredits } p e.2 = s.notices p e.2 :=
    State.notices_congr (t := { e.1 with ports := e.1.ports.map PortBlock.returnCredits }) hl
      (by simp [PortBlock.returnCredits_state, hb, hs]) _
  rw [Event.close_port_eq, hnotices, hb, PortBlock.returnCredits_eq ho]

/-- The NOTICE of a single record (R181). -/
theorem State.notices_single (hup : (s.ports.get p).state = .up) (r : ErrorRecord) :
    s.notices p [r] = if p = s.log.noticePort ∧ s.log.noticeEnable = true ∧ s.log.records.length < 8 then
      [noticePacket s.log.sequence r.kind r.port] else [] := by
  unfold State.notices
  by_cases hl : s.log.records.length < 8
  · obtain ⟨n, hn⟩ : ∃ n, 8 - s.log.records.length = n + 1 := ⟨7 - s.log.records.length, by omega⟩
    simp [hn, hl, hup]
  · have hn : 8 - s.log.records.length = 0 := by omega
    simp [hn, hl]

/-- The flags of the contributors of several entries: each port that contributed to one, unless it is DOWN (R86). -/
theorem flagAll_port (es : List PwqEntry) (x : PerPort PortBlock) :
    (flagAll es x).get q = { x.get q with
      postedError := (x.get q).postedError || ((x.get q).state != .down && es.any (·.contributors.get q)) } := by
  induction es generalizing x with
  | nil => simp [flagAll]
  | cons e es ih =>
    have hstep : flagAll (e :: es) x = flagAll es (flagContributors e.contributors x) := rfl
    have hget : (flagContributors e.contributors x).get q = { x.get q with
        postedError := (x.get q).postedError || ((x.get q).state != .down && e.contributors.get q) } := by
      rw [flagContributors, PerPort.get_zip, PortBlock.contribute]
      cases e.contributors.get q <;> cases (x.get q).state != .down <;> simp [PortBlock.setFlag]
    rw [hstep, ih, hget, List.any_cons]
    cases (x.get q).postedError <;> cases (x.get q).state != .down <;> simp

/-- Each block other than the ports and the log is at the end of an event as the event left it. -/
theorem Event.close_frame (e : Event) :
    (Event.close e).pending = e.1.pending ∧ (Event.close e).regionMap = e.1.regionMap ∧ (Event.close e).window = e.1.window
      ∧ (Event.close e).pwq = e.1.pwq ∧ (Event.close e).tracker = e.1.tracker ∧ (Event.close e).sched = e.1.sched
      ∧ (Event.close e).sweep = e.1.sweep ∧ (Event.close e).ext = e.1.ext ∧ (Event.close e).engine = e.1.engine
      ∧ (Event.close e).stamp = e.1.stamp :=
  State.handAll_frame _ _

end

/-! ### The ingress queue at a warm reset (R47, R171) -/

section
variable {b : PortBlock}

/-- The completions of the requests that a warm reset ends: ABORTED for each that is no posted write (R171). -/
def abortedPackets (rs : List Request) : List Packet :=
  (rs.filter fun x => !x.posted).map fun x => completionPacket x.tag .aborted x.emptyValue []

theorem PortBlock.abortAll_eq (rs : List Request) :
    rs.foldl PortBlock.abort b = { b with
      postedError := b.postedError || rs.any (·.posted), out := b.out ++ if b.state = .up then abortedPackets rs else [] } := by
  induction rs generalizing b with
  | nil => simp [abortedPackets]
  | cons r rs ih =>
    rw [List.foldl_cons, ih, PortBlock.abort]
    by_cases hp : r.posted = true
    · simp [hp, PortBlock.setFlag, abortedPackets]
    · by_cases hs : b.state = .up <;> simp [hp, PortBlock.complete_eq, abortedPackets, hs]

theorem PortBlock.warmReset_eq :
    b.warmReset = { b with
      ingress := [], progress := .examine, cls := none, owed := b.owed + b.ingress.length, barrier := false
      postedError := b.postedError || b.ingress.any (·.posted)
      out := b.out ++ if b.state = .up then abortedPackets b.ingress else [] } := by
  rw [PortBlock.warmReset, PortBlock.abortAll_eq]
  rfl

end

/-! ### The service of WARM_RESET -/

section
variable {s : State} {p q : Port} {r : Request}

theorem exec_warmReset_of_serves (h : s.Serves p r .warmReset) :
    exec .warmReset s = .next (Event.close ((serveWarmReset p r (s.select p)).reply p r.tag)) :=
  congrArg (fun e => Host.Outcome.next (Event.close e)) (State.serve_of_serves h serveWarmReset)

/-- The requests that a warm reset ends at a port: not the one that asked for it. -/
def State.endedAtReset (s : State) (p q : Port) : List Request :=
  if q = p then (s.ports.get q).ingress.tail else (s.ports.get q).ingress

/-- The credits that a warm reset returns to a port. -/
def State.owedAtReset (s : State) (p q : Port) : Nat := (s.endedAtReset p q).length + if q = p then 1 else 0

/-- The block of a port when a warm reset's service and its answer are done, before the credits go out (R171, R172). -/
def State.blockAtReset (s : State) (p : Port) (r : Request) (q : Port) : PortBlock :=
  { s.ports.get q with
    ingress := [], progress := .examine, cls := none, owed := s.owedAtReset p q, barrier := false
    postedError := (s.ports.get q).postedError
      || ((s.ports.get q).state != .down && s.pwq.entries.any (·.contributors.get q))
      || (s.endedAtReset p q).any (·.posted)
    out := (s.ports.get q).out ++ s.completionsFor q s.tracker.entries .aborted
      ++ (if (s.ports.get q).state = .up then abortedPackets (s.endedAtReset p q) else [])
      ++ if q = p then [completionPacket r.tag .ok (some 0) []] else [] }

theorem State.completionsFor_congr {t : State} (h : (t.ports.get q).state = (s.ports.get q).state) (es : List TrackerEntry)
    (st : Status) : t.completionsFor q es st = s.completionsFor q es st := by
  unfold State.completionsFor
  rw [h]

theorem State.reset_port (h : s.Serves p r .warmReset) :
    ((serveWarmReset p r (s.select p)).reply p r.tag).1.ports.get q = s.blockAtReset p r q := by
  have ho := h.nothingOwed.owed_get q
  have hup := h.port_up
  simp only [Served.reply, State.modPort_ports, PerPort.get_mod, serveWarmReset_ports, PerPort.get_map, PortBlock.warmReset_eq,
    flagAll_port, State.completeAll_port, State.select_port_state, PortBlock.complete_eq,
    State.completionsFor_congr State.select_port_state]
  by_cases hq : q = p
  · subst hq
    simp [State.blockAtReset, State.owedAtReset, State.endedAtReset, PortBlock.leave, hup, ho, serveWarmReset, Nat.add_comm]
  · simp [State.blockAtReset, State.owedAtReset, State.endedAtReset, hq, ho]

/-- A port that is not UP has no request to end. -/
theorem State.CreditsAddUp.ingress_of_not_up (h : s.CreditsAddUp) (hs : (s.ports.get q).state ≠ .up) :
    (s.ports.get q).ingress = [] := by
  obtain ⟨-, hdown, -, hdisabled⟩ := PerPort.all_iff_get.mp h q
  cases hst : (s.ports.get q).state with
  | down => exact (hdown hst).1
  | up => exact absurd hst hs
  | disabled => exact hdisabled hst

end

/-- Settles O45: the service block by block, then each port's block through the return of its credits and the NOTICE. -/
theorem warmResetEndsAllWorkInOrder : Obligations.WarmResetEndsAllWorkInOrder := by
  intro s p r h hc
  refine ⟨_, exec_warmReset_of_serves h, ?_⟩
  obtain ⟨hpending, hmap, hwindow, hpwq, htracker, hsched, hsweep, hext, hengine, hstamp⟩ :=
    Event.close_frame ((serveWarmReset p r (s.select p)).reply p r.tag)
  refine ⟨htracker.trans ?tracker, hpwq, hsched, hsweep, hext, hmap, hwindow, hengine, hpending, hstamp,
    (Event.close_log _).trans (State.handAll_log s _).symm, fun q => ?port⟩
  case tracker => simp [Served.reply, serveWarmReset, State.endEntries, State.modPort]
  case port =>
    intro b b' ended owed
    have hidle : b.state ≠ .up → ended = [] ∧ q ≠ p := fun hs => by
      have hi := hc.ingress_of_not_up hs
      exact ⟨by simp [ended, b, hi], h.ne_of_state hs⟩
    have howed : owed ≠ 0 → b.state ≠ .down := fun ho hs => by
      obtain ⟨he, hq⟩ := hidle (by simp [hs])
      exact ho (by simp [owed, he, hq])
    have hblock : b' = _ := Event.close_port_of_block (s := s) (State.reset_port h) rfl rfl howed
    have hflag : b'.postedError = _ := congrArg PortBlock.postedError hblock
    have hout : b'.out = _ := congrArg PortBlock.out hblock
    refine ⟨?block, ?flag, fun hs => ?idle, fun hs => ?up⟩
    case block =>
      rw [hflag, hout, hblock]
      have ho : b.owed = 0 := h.nothingOwed.owed_get q
      simp only [State.blockAtReset, ← ho]
      rfl
    case flag =>
      rw [hflag]
      simp only [State.blockAtReset, Bool.or_eq_true, Bool.and_eq_true, bne_iff_ne, List.any_eq_true]
      exact or_right_comm.trans or_assoc
    case idle =>
      obtain ⟨he, hq⟩ := hidle hs
      have ho : s.owedAtReset p q = 0 := by simp [State.owedAtReset, State.endedAtReset, hc.ingress_of_not_up hs, hq]
      rw [hout]
      simp [State.blockAtReset, ho, State.notices_of_not_up hs, State.completionsFor, hs, hq, b]
    case up =>
      rw [hout]
      simp only [State.blockAtReset, State.completionsFor, if_pos (show (s.ports.get q).state = .up from hs)]
      exact congrArg (_ ++ ·) (State.notices_single hs _)

end Sys2Proof.Machine
end

section
/-! FLUSHes that end, and queue entries removed by their response or their expiry (sections 5.5, 5.6 and 6.6). -/

namespace Sys2Proof.Machine

/-! ### The FLUSH that a removal ends at a port (R90, R110) -/

/-- The removal of slots ends this entry, a FLUSH whose port still waits for it. -/
def TrackerEntry.ends (gone : Fin 16 → Bool) (e : TrackerEntry) : Bool := (e.afterGone gone).isNone && !e.orphan

/-- No two live FLUSHes of these entries are of one port. -/
def FlushesOfPortsApart (es : List TrackerEntry) : Prop :=
  es.Pairwise fun a b => ¬(a.isLiveFlush = true ∧ b.isLiveFlush = true ∧ a.port = b.port)

section
variable {gone : Fin 16 → Bool} {e f : TrackerEntry} {es : List TrackerEntry} {p : Port} {x : PerPort PortBlock} {b : PortBlock}

theorem TrackerEntry.isLiveFlush_of_ends (h : e.ends gone = true) : e.isLiveFlush = true := by
  rw [TrackerEntry.ends, Bool.and_eq_true, Option.isNone_iff_eq_none, Bool.not_eq_true'] at h
  obtain ⟨hgone, ho⟩ := h
  exact TrackerEntry.isLiveFlush_of_gone hgone ho

theorem PortBlock.endFlush_eq (b : PortBlock) (tag : BitVec 8) :
    b.endFlush tag = { b with
      postedError := false, barrier := false
      out := b.out ++ if b.state = .up then
        [completionPacket tag (if b.postedError = true then .targetError else .ok) none []] else [] } := by
  simp only [PortBlock.endFlush, PortBlock.reportFlag, PortBlock.complete_eq]

theorem TrackerEntry.endsFlush_other (h : ¬(e.port = p ∧ e.ends gone = true)) : (e.endsFlush gone x).get p = x.get p := by
  unfold TrackerEntry.endsFlush
  split
  · next hends => exact PerPort.get_mod_other _ _ fun hp => h ⟨hp.symm, hends⟩
  · rfl

theorem TrackerEntry.endsFlush_same (hp : e.port = p) (h : e.ends gone = true) :
    (e.endsFlush gone x).get p = (x.get p).endFlush e.tag := by
  subst hp
  exact (congrArg (PerPort.get · e.port) (if_pos h)).trans (PerPort.get_mod_same _ _ _)

theorem foldl_endsFlush_other (h : ∀ e ∈ es, ¬(e.port = p ∧ e.ends gone = true)) :
    (es.foldl (fun y e => e.endsFlush gone y) x).get p = x.get p := by
  induction es generalizing x with
  | nil => rfl
  | cons e es ih =>
    rw [List.foldl_cons, ih fun f hf => h f (List.mem_cons_of_mem _ hf)]
    exact TrackerEntry.endsFlush_other (h e List.mem_cons_self)

theorem FlushesOfPortsApart.not_ends (h : FlushesOfPortsApart (e :: es)) (hp : e.port = p) (he : e.ends gone = true) :
    ∀ f ∈ es, ¬(f.port = p ∧ f.ends gone = true) := fun _ hf ⟨hfp, hfe⟩ =>
  List.rel_of_pairwise_cons h hf ⟨TrackerEntry.isLiveFlush_of_ends he, TrackerEntry.isLiveFlush_of_ends hfe, hp.trans hfp.symm⟩

/-- A port at which no FLUSH ends is left as it is; at any other the one FLUSH that ends completes by the flag, clears it and
releases the barrier. -/
theorem foldl_endsFlush_port (h : FlushesOfPortsApart es) :
    let ended := es.filter fun e => e.port == p && e.ends gone
    (es.foldl (fun y e => e.endsFlush gone y) x).get p = { x.get p with
      postedError := (x.get p).postedError && ended.isEmpty, barrier := (x.get p).barrier && ended.isEmpty
      out := (x.get p).out ++ if (x.get p).state = .up then
        ended.map fun e => completionPacket e.tag (if (x.get p).postedError = true then .targetError else .ok) none [] else [] } := by
  induction es generalizing x with
  | nil => simp
  | cons e es ih =>
    obtain ⟨-, hes⟩ := List.pairwise_cons.mp h
    by_cases he : e.port = p ∧ e.ends gone = true
    · obtain ⟨hp, hends⟩ := he
      have hrest := h.not_ends hp hends
      have hone : ((e :: es).filter fun f => f.port == p && f.ends gone) = [e] := by
        rw [List.filter_cons_of_pos (by simp [hp, hends]),
          List.filter_eq_nil_iff.mpr fun f hf => by simpa using hrest f hf]
      dsimp only
      rw [List.foldl_cons, foldl_endsFlush_other hrest, TrackerEntry.endsFlush_same hp hends, PortBlock.endFlush_eq, hone]
      simp
    · have hsame : ((e :: es).filter fun f => f.port == p && f.ends gone) = es.filter fun f => f.port == p && f.ends gone :=
        List.filter_cons_of_neg (by simpa using he)
      dsimp only
      rw [List.foldl_cons, ih hes, TrackerEntry.endsFlush_other he, hsame]

/-- The list of the FLUSHes that end at a port has one member at most. -/
theorem FlushesOfPortsApart.filter_eq (h : FlushesOfPortsApart es) (he : e ∈ es) (hends : e.ends gone = true) :
    (es.filter fun f => f.port == e.port && f.ends gone) = [e] := by
  have hmem : e ∈ es.filter fun f => f.port == e.port && f.ends gone := List.mem_filter.mpr ⟨he, by simp [hends]⟩
  have hpair := (h.filter fun f => f.port == e.port && f.ends gone)
  match hl : es.filter fun f => f.port == e.port && f.ends gone with
  | [] => rw [hl] at hmem; cases hmem
  | [f] => rw [hl, List.mem_singleton] at hmem; rw [hl, hmem]
  | f :: g :: rest =>
    have hin {k : TrackerEntry} (hk : k ∈ f :: g :: rest) : k.port = e.port ∧ k.ends gone = true := by
      rw [← hl, List.mem_filter] at hk
      simpa using hk.2
    obtain ⟨hfp, hf⟩ := hin List.mem_cons_self
    obtain ⟨hgp, hg⟩ := hin (List.mem_cons_of_mem _ List.mem_cons_self)
    rw [hl] at hpair
    exact absurd ⟨TrackerEntry.isLiveFlush_of_ends hf, TrackerEntry.isLiveFlush_of_ends hg, hfp.trans hgp.symm⟩
      (List.rel_of_pairwise_cons hpair List.mem_cons_self)

end

/-! ### The removal of a queue entry (R82 to R86) -/

section
variable {s u : State} {q : PwqEntry} {d : Fin 8} {p : Port} {e : TrackerEntry} {failed : Option RecordKind} {st : Status}

theorem State.Linked.entryAt_of_mem (h : s.Linked) (he : e ∈ s.tracker.entries) : s.entryAt e.index = some e := by
  cases hf : s.entryAt e.index with
  | none => exact absurd (List.find?_eq_none.mp hf e he) (by simp)
  | some f =>
    obtain ⟨hi, hmem⟩ := State.entryAt_eq_some hf
    rw [h.index_inj hmem he hi]

theorem State.Linked.pwqAt_of_mem (h : s.Linked) (hq : q ∈ s.pwq.entries) : s.pwqAt q.slot = some q := by
  cases hf : s.pwqAt q.slot with
  | none => exact absurd (List.find?_eq_none.mp hf q hq) (by simp)
  | some r =>
    obtain ⟨hslot, hmem⟩ := State.pwqAt_eq_some hf
    rw [h.slot_inj hmem hq hslot]

/-- The posted-error flag of a port behind the removal of this entry, before a FLUSH reports it (R86). -/
def State.flagBehind (s : State) (q : PwqEntry) (failed : Option RecordKind) (p : Port) : Bool :=
  (s.ports.get p).postedError || (failed.isSome && q.contributors.get p && (s.ports.get p).state != .down)

/-- The live FLUSHes of a port that the removal of this entry ends. -/
def State.flushesEnded (s : State) (q : PwqEntry) (p : Port) : List TrackerEntry :=
  s.tracker.entries.filter fun e => e.port == p && e.ends (· = q.slot)

theorem isEmpty_filter_ne (slot : Fin 16) (awaited : List (Fin 16)) :
    (awaited.filter fun x => !decide (x = slot)).isEmpty = awaited.all (· = slot) := by
  rw [Bool.eq_iff_iff]
  simp

/-- A removal ends the live FLUSH that awaits nothing else. -/
theorem TrackerEntry.ends_iff {slot : Fin 16} : e.ends (· = slot) = true ↔
    e.orphan = false ∧ ∃ awaited, e.work = .flush awaited ∧ awaited.all (· = slot) = true := by
  cases hw : e.work with
  | flush awaited =>
    simp only [TrackerEntry.ends, TrackerEntry.afterGone, hw, isEmpty_filter_ne, TrackWork.flush.injEq, exists_eq_left']
    cases awaited.all (· = slot) <;> simp
  | _ => simp [TrackerEntry.ends, TrackerEntry.afterGone, hw]

theorem TrackerEntry.ends_eq_afterRemoval {slot : Fin 16} :
    e.ends (· = slot) = (e.isLiveFlush && (e.afterRemoval slot).isNone) := by
  cases hw : e.work with
  | flush awaited =>
    rw [TrackerEntry.afterRemoval_flush hw]
    simp only [TrackerEntry.ends, TrackerEntry.afterGone, TrackerEntry.isLiveFlush, hw, isEmpty_filter_ne, Bool.and_true]
    cases awaited.all (· = slot) <;> cases e.orphan <;> rfl
  | _ => simp [TrackerEntry.ends, TrackerEntry.afterGone, TrackerEntry.isLiveFlush, hw]

/-- The completions of the FLUSHes that the removal ends at a port. -/
theorem State.completionsFor_flushesEnded :
    s.completionsFor p (s.tracker.entries.filter fun e => e.isLiveFlush && (e.afterRemoval q.slot).isNone) st
      = if (s.ports.get p).state = .up then (s.flushesEnded q p).map fun e => completionPacket e.tag st none [] else [] := by
  unfold State.completionsFor State.flushesEnded
  rw [List.filter_filter]
  refine if_congr Iff.rfl (congrArg (List.map _) (List.filter_congr fun e _ => ?_)) rfl
  rw [← TrackerEntry.ends_eq_afterRemoval]
  cases ho : e.orphan <;> simp [TrackerEntry.ends, ho]

theorem flagContributors_port (c : PerPort Bool) (x : PerPort PortBlock) :
    (flagContributors c x).get p = { x.get p with
      postedError := (x.get p).postedError || (c.get p && (x.get p).state != .down) } := by
  rw [flagContributors, PerPort.get_zip, PortBlock.contribute]
  split
  · next h => rw [h]; simp [PortBlock.setFlag]
  · next h => rw [Bool.not_eq_true] at h; simp [h]

/-- The FLUSHes that end are none of those that a removed entry owes. -/
theorem State.Linked.filter_ends (h : s.Linked) (hq : q ∈ s.pwq.entries) :
    ((s.tracker.entries.filter fun e => decide (e.index ∉ q.owed)).filter fun e => e.port == p && e.ends (· = q.slot))
      = s.flushesEnded q p := by
  rw [List.filter_filter]
  refine List.filter_congr fun e he => ?_
  cases hends : e.ends (· = q.slot)
  · simp
  · have hnot : e.index ∉ q.owed := fun hi => by
      have hlive := TrackerEntry.isLiveFlush_of_ends hends
      simp [TrackerEntry.isLiveFlush, (h.mem_owed_iff hq he).mp hi] at hlive
    simp [hnot]

theorem State.removePwq_ports (hn : q.owed.Nodup) :
    (u.removePwq q st failed).1.ports = (u.tracker.entries.filter fun e => decide (e.index ∉ q.owed)).foldl
      (fun y e => e.endsFlush (· = q.slot) y)
      ((if failed.isSome = true then flagContributors q.contributors u.ports else u.ports).completeAll
        (q.owed.filterMap u.entryAt) st) := by
  unfold State.removePwq
  dsimp only [State.releaseHeld, State.shrinkFlushes]
  rw [shrinkFlushes_eq, answerOwed_eq _ _ _ hn]
  cases failed <;> rfl

/-- A port behind a removal: the flag of a contributor, the completion of an owed ACK write, and that of the FLUSH that ends, which
reports the flag and releases the barrier (R82, R110). -/
theorem State.Linked.removePwq_port (h : s.Linked) (hf : s.FlushesApart) (hq : q ∈ s.pwq.entries) (hp : u.ports = s.ports)
    (ht : u.tracker = s.tracker) :
    (u.removePwq q st failed).1.ports.get p = { s.ports.get p with
      postedError := s.flagBehind q failed p && (s.flushesEnded q p).isEmpty
      barrier := (s.ports.get p).barrier && (s.flushesEnded q p).isEmpty
      out := (s.ports.get p).out ++ s.completionsFor p (s.owedEntries [q]) st
        ++ s.completionsFor p (s.tracker.entries.filter fun e => e.isLiveFlush && (e.afterRemoval q.slot).isNone)
          (if s.flagBehind q failed p = true then .targetError else .ok) } := by
  obtain ⟨hapart, -, -⟩ := hf
  have hat : u.entryAt = s.entryAt := funext fun i => by rw [State.entryAt, State.entryAt, ht]
  have howed : q.owed.filterMap u.entryAt = s.owedEntries [q] := by simp [State.owedEntries, hat]
  have hflagged : (if failed.isSome = true then flagContributors q.contributors s.ports else s.ports).get p
      = { s.ports.get p with postedError := s.flagBehind q failed p } := by
    unfold State.flagBehind
    cases failed with
    | none => simp
    | some kind => simp [flagContributors_port]
  have hanswered := State.completeAll_port
    { s with ports := if failed.isSome = true then flagContributors q.contributors s.ports else s.ports } (s.owedEntries [q]) st p
  dsimp only at hanswered
  rw [State.removePwq_ports (h.owed_nodup hq), hp, ht, howed,
    foldl_endsFlush_port (es := s.tracker.entries.filter fun e => decide (e.index ∉ q.owed)) (hapart.filter _),
    h.filter_ends hq, hanswered, hflagged, State.completionsFor_flushesEnded]
  rw [State.completionsFor_congr (s := s) (q := p) (by rw [hflagged])]

/-- The tag of a queue entry as the end of the entry leaves it, with the correction that its response reports. -/
def State.tagEnded (s : State) (d : Fin 8) (left : DtagState) (corrected : Bool) : State :=
  if corrected = true then (s.setDtag d left).countCorrected else s.setDtag d left

theorem State.takePwq_of_carried {resp : MemResp} {left : DtagState} {corrected : Bool} (hl : left = .free)
    (hr : match resp.result with
      | .good => failed = none ∧ corrected = false
      | .corrected => failed = none ∧ corrected = true
      | .uncorrectable | .failed => failed = some .writeFailed ∧ corrected = false) :
    s.takePwq d q resp = (s.tagEnded d left corrected).removePwq q (owedStatus failed) failed := by
  subst hl
  unfold State.takePwq
  cases hres : resp.result <;> (rw [hres] at hr; obtain ⟨rfl, rfl⟩ := hr; rfl)

/-- Whatever ends a queue entry removes it, with its tag as that leaves it. -/
theorem QueueEntryEnds.exec_eq {timer : Nat} {c : Instr} {left : DtagState} {corrected : Bool} (h : s.Linked) (hq : q ∈ s.pwq.entries)
    (hs : q.state = .issued d timer) (he : QueueEntryEnds s q d c failed left corrected) :
    exec c s = .next (Event.record ((s.tagEnded d left corrected).removePwq q (owedStatus failed) failed)) := by
  obtain ⟨rfl, rfl, rfl, rfl⟩ | ⟨pkt, rfl, hk, hl, hleft, hd, hep, hlen, hdata, hr⟩ := he
  · have hexp : s.expirePwq q.slot = (s.setDtag d .stale).removePwq q .timeout (some .writeTimeout) := by
      simp only [State.expirePwq, h.pwqAt_of_mem hq, hs]
    exact congrArg (fun e : Event => Host.Outcome.next (Event.record e)) hexp
  · subst hd
    have htag : s.sched.dtags[(MemResp.ofPacket pkt).dtag] = .write q.slot := (h.slots q hq).dtag _ ⟨timer, hs⟩
    have hcarries : (MemResp.ofPacket pkt).carries 0 = true := MemResp.carries_eq_true.mpr ⟨hlen, List.length_eq_zero_iff.mpr hdata⟩
    have htake : s.judgeM (MemResp.ofPacket pkt) = s.takePwq (MemResp.ofPacket pkt).dtag q (MemResp.ofPacket pkt) := by
      simp only [State.judgeM, hep, htag, h.pwqAt_of_mem hq, hcarries, ne_eq, not_true, if_false, if_true]
    rw [exec_memResp_of_response hl hk, htake, State.takePwq_of_carried hleft hr]

/-- The record of a removal: of a failure or an expiry alone (R84, R85). -/
abbrev PwqEntry.failures (q : PwqEntry) (failed : Option RecordKind) : List ErrorRecord := failed.toList.map q.failure

theorem State.tagEnded_eq (s : State) (d : Fin 8) (left : DtagState) (corrected : Bool) :
    s.tagEnded d left corrected = { s with
      sched := { s.sched with dtags := s.sched.dtags.set d left }
      sweep := { s.sweep with corrected :=
        if corrected = true ∧ s.sweep.corrected < 2 ^ 32 - 1 then s.sweep.corrected + 1 else s.sweep.corrected } } := by
  cases corrected with
  | false => simp [State.tagEnded, State.setDtag]
  | true =>
    have hcount : (if true = true ∧ s.sweep.corrected < 2 ^ 32 - 1 then s.sweep.corrected + 1 else s.sweep.corrected)
        = saturate (2 ^ 32 - 1) s.sweep.corrected := if_congr (and_iff_right rfl) rfl rfl
    rw [hcount]
    rfl

/-- A port at the end of the event that removes a queue entry. -/
theorem State.Linked.record_removePwq_port (h : s.Linked) (hf : s.FlushesApart) (hq : q ∈ s.pwq.entries) {left : DtagState}
    {corrected : Bool} :
    (Event.record ((s.tagEnded d left corrected).removePwq q st failed)).ports.get p = { s.ports.get p with
      postedError := s.flagBehind q failed p && (s.flushesEnded q p).isEmpty
      barrier := (s.ports.get p).barrier && (s.flushesEnded q p).isEmpty
      out := (s.ports.get p).out ++ s.completionsFor p (s.owedEntries [q]) st
        ++ s.completionsFor p (s.tracker.entries.filter fun e => e.isLiveFlush && (e.afterRemoval q.slot).isNone)
          (if s.flagBehind q failed p = true then .targetError else .ok)
        ++ s.notices p (q.failures failed) } := by
  have hu := s.tagEnded_eq d left corrected
  obtain ⟨-, -, -, -, -, -, -, -, hlog, -⟩ := (s.tagEnded d left corrected).removePwq_frame q st failed
  have hport := h.removePwq_port (u := s.tagEnded d left corrected) (st := st) (failed := failed) (p := p) hf hq (by rw [hu])
    (by rw [hu])
  rw [Event.record_port_eq, State.notices_congr (s := s) (hlog.trans (by rw [hu])) (by rw [hport]), hport]
  rfl

theorem State.flagBehind_iff : s.flagBehind q failed p = true ↔ (s.ports.get p).postedError = true
    ∨ failed.isSome = true ∧ q.contributors.get p = true ∧ (s.ports.get p).state ≠ .down := by
  simp only [State.flagBehind, Bool.or_eq_true, Bool.and_eq_true, bne_iff_ne, and_assoc]

theorem State.mem_completionsFor {es : List TrackerEntry} (he : e ∈ es) (ho : e.orphan = false)
    (hup : (s.ports.get e.port).state = .up) : completionPacket e.tag st none [] ∈ s.completionsFor e.port es st := by
  rw [State.completionsFor, if_pos hup]
  exact List.mem_map.mpr ⟨e, List.mem_filter.mpr ⟨he, by simp [ho]⟩, rfl⟩

/-- The ACK write that waits for a queue entry is among those that the entry owes. -/
theorem State.Linked.mem_owedEntries (h : s.Linked) (hq : q ∈ s.pwq.entries) (he : e ∈ s.tracker.entries)
    (hw : e.work = .ackM q.slot) : e ∈ s.owedEntries [q] := by
  have hi := (h.mem_owed_iff hq he).mpr hw
  simpa [State.owedEntries] using ⟨_, hi, h.entryAt_of_mem he⟩

end

/-- Settles O32: whatever ends the entry removes it, and the removal is said block by block and port by port. -/
theorem removedEntriesReleaseWhatWaitedForThem : Obligations.RemovedEntriesReleaseWhatWaitedForThem := by
  intro s q d timer c failed left corrected hw hq hs hends records
  obtain ⟨h, hf⟩ := State.workTied_iff.mp hw
  have hu := s.tagEnded_eq d left corrected
  obtain ⟨fpending, fmap, fwindow, fpwq, fsched, fsweep, fext, fengine, flog, fstamp⟩ :=
    (s.tagEnded d left corrected).removePwq_frame q (owedStatus failed) failed
  obtain ⟨rpending, rmap, rwindow, rpwq, rtracker, rsched, rsweep, rext, rengine, rstamp⟩ :=
    State.handAll_frame ((s.tagEnded d left corrected).removePwq q (owedStatus failed) failed).1 (q.failures failed)
  refine ⟨_, hends.exec_eq h hq hs, (rpwq.trans fpwq).trans (by rw [hu]), (rsched.trans fsched).trans (by rw [hu]),
    rtracker.trans (h.removePwq_tracker hq (by rw [hu]) _ _), (rsweep.trans fsweep).trans (by rw [hu]), ?log,
    (rmap.trans fmap).trans (by rw [hu]), (rwindow.trans fwindow).trans (by rw [hu]), (rext.trans fext).trans (by rw [hu]),
    (rengine.trans fengine).trans (by rw [hu]), (rpending.trans fpending).trans (by rw [hu]),
    (rstamp.trans fstamp).trans (by rw [hu]), fun p => ?port⟩
  case log =>
    rw [Event.record_log, State.handAll_log, flog, hu]
    rfl
  case port =>
    intro b b' flag
    have hb' : b' = _ := h.record_removePwq_port hf hq
    have hout : b'.out = b.out ++ s.completionsFor p (s.owedEntries [q]) (owedStatus failed)
        ++ s.completionsFor p (s.tracker.entries.filter fun e => e.isLiveFlush && (e.afterRemoval q.slot).isNone)
          (if flag then .targetError else .ok) ++ s.notices p records := by
      rw [hb']
      simp only [State.flagBehind_iff]
      rfl
    refine ⟨by rw [hb'], hout, fun e he hwork hport ho hup => ?acked, fun hnone => ?none⟩
    case acked =>
      subst hport
      rw [hout]
      simp only [List.mem_append]
      exact .inl (.inl (.inr (State.mem_completionsFor (h.mem_owedEntries hq he hwork) ho hup)))
    case none =>
      have hno : (s.flushesEnded q p).isEmpty = true := by
        rw [List.isEmpty_iff, State.flushesEnded, List.filter_eq_nil_iff]
        intro e he hb
        obtain ⟨hport, hends⟩ := Bool.and_eq_true_iff.mp hb
        obtain ⟨ho, awaited, hwork, hall⟩ := TrackerEntry.ends_iff.mp hends
        rw [hnone e he (beq_iff_eq.mp hport) ho awaited hwork] at hall
        cases hall
      rw [hb', hno]
      simp only [Bool.and_true]
      exact ⟨rfl, State.flagBehind_iff⟩

/-- Settles O33: the removal ends this FLUSH and, since no other is live at its port, no other one there. -/
theorem flushesReportTheFailureThatEndsThem : Obligations.FlushesReportTheFailureThatEndsThem := by
  intro s q d timer c failed left corrected e awaited hw hq hs hends he hwork hall ho b flag
  obtain ⟨h, hf⟩ := State.workTied_iff.mp hw
  obtain ⟨hapart, -, -⟩ := id hf
  have hend : e.ends (· = q.slot) = true := TrackerEntry.ends_iff.mpr ⟨ho, awaited, hwork, hall⟩
  have hone : s.flushesEnded q e.port = [e] := FlushesOfPortsApart.filter_eq hapart he hend
  have hport := h.record_removePwq_port (p := e.port) (d := d) (failed := failed) (st := owedStatus failed) (left := left)
    (corrected := corrected) hf hq
  refine ⟨_, hends.exec_eq h hq hs, by rw [hport, hone]; simp, by rw [hport, hone]; simp, fun hs => ?idle, fun hs => ?up⟩
  case idle =>
    rw [hport]
    simp [State.completionsFor, State.notices_of_not_up hs, show (s.ports.get e.port).state ≠ .up from hs, b]
  case up =>
    rw [hport, State.completionsFor_flushesEnded, hone, if_pos (show (s.ports.get e.port).state = .up from hs)]
    simp only [State.flagBehind_iff]
    rfl

end Sys2Proof.Machine
end

section
/-! The heads that a lost target link ends, and the loss of the X link (sections 3.3 and 4.12). -/

namespace Sys2Proof.Machine

/-! ### The waiting heads (R48, R49) -/

/-- The block after the loss of the target that heads at this progress wait for: such a head is dropped or answered TARGET_DOWN. -/
def PortBlock.loseHead (b : PortBlock) (g : Progress) : PortBlock :=
  match b.ingress with
  | r :: _ => if b.progress = g then if r.posted = true then b.dropPosted else b.answer r .targetDown else b
  | [] => b

/-- The record of the head that is dropped so. -/
def PortBlock.lostRecord (b : PortBlock) (g : Progress) (p : Port) : Option ErrorRecord :=
  match b.ingress with
  | [] => none
  | r :: _ => if b.progress = g ∧ r.posted = true then some (dropRecord .writeTargetDown p r b.cls) else none

section
variable {s : State} {b : PortBlock} {g : Progress} {p q : Port} {r : Request}

theorem State.lostHeads_eq (s : State) (g : Progress) :
    s.lostHeads g = [Port.u0, .u1, .u2, .u3].filterMap fun p => (s.ports.get p).lostRecord g p := rfl

theorem State.endWaiting_port : (s.endWaiting g p).1.ports.get q = if q = p then (s.ports.get p).loseHead g else s.ports.get q := by
  unfold State.endWaiting PortBlock.loseHead
  dsimp only
  cases (s.ports.get p).ingress with
  | nil => split <;> simp_all
  | cons r rest =>
    by_cases hg : (s.ports.get p).progress = g
    · cases hr : r.posted <;> simp [hg, hr, State.dropHead, State.answerHead, PerPort.get_mod]
    · split <;> simp_all

theorem State.endWaiting_records : (s.endWaiting g p).2 = ((s.ports.get p).lostRecord g p).toList := by
  unfold State.endWaiting PortBlock.lostRecord
  dsimp only
  cases (s.ports.get p).ingress with
  | nil => rfl
  | cons r rest =>
    by_cases hg : (s.ports.get p).progress = g
    · cases hr : r.posted <;> simp [hg, hr, State.dropHead, State.answerHead]
    · simp [hg]

theorem State.endWaitingAll_port (ps : List Port) (hn : ps.Nodup) (e : Event) :
    (State.endWaitingAll g ps e).1.ports.get q = if q ∈ ps then (e.1.ports.get q).loseHead g else e.1.ports.get q := by
  induction ps generalizing e with
  | nil => rfl
  | cons p ps ih =>
    obtain ⟨hp, hps⟩ := List.nodup_cons.mp hn
    rw [State.endWaitingAll, ih hps, State.endWaiting_port]
    by_cases hq : q = p
    · subst hq; simp [hp]
    · simp [hq]

theorem State.endWaitingAll_records (ps : List Port) (hn : ps.Nodup) (e : Event) :
    (State.endWaitingAll g ps e).2 = e.2 ++ ps.filterMap fun p => (e.1.ports.get p).lostRecord g p := by
  induction ps generalizing e with
  | nil => simp [State.endWaitingAll]
  | cons p ps ih =>
    obtain ⟨hp, hps⟩ := List.nodup_cons.mp hn
    have hothers : ps.filterMap (fun q => ((e.1.endWaiting g p).1.ports.get q).lostRecord g q)
        = ps.filterMap fun q => (e.1.ports.get q).lostRecord g q :=
      List.filterMap_congr fun q hq => by rw [State.endWaiting_port, if_neg fun hqp : q = p => hp (hqp ▸ hq)]
    rw [State.endWaitingAll, ih hps, hothers, State.endWaiting_records, List.append_assoc]
    cases hr : (e.1.ports.get p).lostRecord g p <;> simp [hr]

theorem PortBlock.loseHead_of_not_waiting (h : ¬(b.progress = g ∧ b.ingress ≠ [])) : b.loseHead g = b := by
  unfold PortBlock.loseHead
  cases hi : b.ingress with
  | nil => rfl
  | cons r rest => exact if_neg fun hg => h ⟨hg, by simp [hi]⟩

theorem PortBlock.loseHead_of_waiting {rest : List Request} (hi : b.ingress = r :: rest) (hg : b.progress = g) (hup : b.state = .up) :
    b.loseHead g = { b with
      ingress := rest, progress := .examine, cls := none, owed := b.owed + 1, postedError := b.postedError || r.posted
      out := b.out ++ if r.posted = true then [] else [completionPacket r.tag .targetDown r.emptyValue []] } := by
  unfold PortBlock.loseHead
  rw [hi]
  simp only [if_pos hg]
  cases hr : r.posted with
  | true => simp [PortBlock.dropPosted, PortBlock.setFlag, PortBlock.leave, hi]
  | false => simp [PortBlock.answer, PortBlock.complete_eq, PortBlock.leave, hi, hup]

/-- A port whose block an event left as the loss of a target does, at the end of that event. -/
theorem State.CreditsAddUp.close_loseHead (hc : s.CreditsAddUp) {e : Event} {flag barrier : Bool} {completions : List Packet}
    (hl : e.1.log = s.log)
    (hb : e.1.ports.get p = PortBlock.loseHead
      { s.ports.get p with postedError := flag, barrier := barrier, out := (s.ports.get p).out ++ completions } g) :
    s.HeadEndsAtLoss (Event.close e) g p completions e.2 ∧ ((Event.close e).ports.get p).barrier = barrier
      ∧ (((Event.close e).ports.get p).postedError = true ↔ flag = true ∨ s.HeadDropped g p) := by
  have ho := hc.nothingOwed.owed_get p
  by_cases hw : s.HeadWaits g p
  · obtain ⟨hg, hne⟩ := id hw
    obtain ⟨r, rest, hi⟩ := List.exists_cons_of_ne_nil hne
    have hup : (s.ports.get p).state = .up := by
      by_contra hs
      exact hne (hc.ingress_of_not_up hs)
    replace hb := hb.trans (PortBlock.loseHead_of_waiting (r := r) (rest := rest) hi hg hup)
    have hport := Event.close_port_of_block (s := s) hb hl rfl fun _ => by simp [hup]
    refine ⟨⟨fun _ r' hr' => ?_, fun hn => absurd hw hn⟩, by rw [hport], ?_⟩
    · obtain rfl : r = r' := by simpa [hi] using hr'
      rw [hport]
      cases hr : r.posted <;> simp [hi, ho, Request.emptyValue]
    · have hdropped : s.HeadDropped g p ↔ r.posted = true := by
        rw [State.HeadDropped, and_iff_right hw, hi]
        simp
      rw [hport, hdropped]
      exact Bool.or_eq_true_iff
  · replace hb := hb.trans (PortBlock.loseHead_of_not_waiting hw)
    have hport := Event.close_port_of_block (s := s) hb hl rfl fun h => absurd ho h
    refine ⟨⟨fun hn => absurd hn hw, fun _ => ?_⟩, by rw [hport], ?_⟩
    · rw [hport]
      simp [ho]
    · rw [hport, State.HeadDropped, iff_false_intro hw, false_and, or_false]

end

/-! ### The X link (R49, R115, R156) -/

section
variable {s : State} {p : Port}

theorem nodup_ports : [Port.u0, .u1, .u2, .u3].Nodup := by decide

theorem mem_ports (p : Port) : p ∈ [Port.u0, .u1, .u2, .u3] := by cases p <;> decide

/-- Packets sent to a port change neither what its head waits for nor the record of its loss. -/
theorem State.accessesLost_port : s.accessesLost.ports.get p = { s.ports.get p with
    out := (s.ports.get p).out ++ s.completionsFor p (s.tracker.entries.filter fun e => e.isOnX) .targetDown } :=
  State.completeAll_port s _ _ p

theorem State.loseX_records (s : State) : s.loseX.2 = s.lostHeads .waitX := by
  rw [State.loseX_eq, State.endWaitingAll_records _ nodup_ports, State.lostHeads_eq, List.nil_append]
  refine List.filterMap_congr fun p _ => ?_
  dsimp only
  rw [State.accessesLost_port]
  rfl

theorem State.loseX_port : s.loseX.1.ports.get p = (s.accessesLost.ports.get p).loseHead .waitX := by
  rw [State.loseX_eq, State.endWaitingAll_port _ nodup_ports, if_pos (mem_ports p)]

end

/-- Settles O8: the entries on X complete, the waiting heads end in the order of the ports, then the credits and NOTICEs go out. -/
theorem lostExtensionLinkEndsExtensionWork : Obligations.LostExtensionLinkEndsExtensionWork := by
  refine ⟨fun s hl hc => ?_, fun s hl => if_pos hl⟩
  have hexec : exec .xLinkLost s = .next (Event.close s.loseX) := if_neg (by simp [hl])
  obtain ⟨x, hx⟩ := State.endWaitingAll_eq .waitX [.u0, .u1, .u2, .u3] (s.accessesLost, [])
  rw [← State.loseX_eq] at hx
  obtain ⟨fpending, fmap, fwindow, fpwq, ftracker, fsched, fsweep, fext, fengine, fstamp⟩ := Event.close_frame s.loseX
  rw [hx] at fpending fmap fwindow fpwq ftracker fsched fsweep fext fengine fstamp
  have hlog : s.loseX.1.log = s.log := by rw [hx]; rfl
  refine ⟨_, hexec, fext, ftracker, fpwq, fsched, fsweep, fmap, fwindow, fengine, fstamp, fpending, ?log, fun p => ?port⟩
  case log => rw [Event.close_log, State.handAll_log, hlog, s.loseX_records]
  case port =>
    rw [← s.loseX_records]
    exact hc.close_loseHead hlog (State.loseX_port.trans (congrArg (PortBlock.loseHead · .waitX) State.accessesLost_port))

end Sys2Proof.Machine
end

section
/-! The loss of the M link (sections 3.3, 5.7, 6.8 and 7.7). -/

namespace Sys2Proof.Machine

section
variable {s : State} {p : Port} {e : TrackerEntry}

/-! ### The queue discarded with its FLUSHes (R92, R110, R114) -/

/-- The posted-error flag of a port when every queue entry has been discarded, before a FLUSH reports it (R86, R92). -/
def State.flagAtLoss (s : State) (p : Port) : Bool :=
  (s.ports.get p).postedError || ((s.ports.get p).state != .down && s.pwq.entries.any (·.contributors.get p))

/-- The live FLUSHes of a port. -/
def State.liveFlushes (s : State) (p : Port) : List TrackerEntry :=
  s.tracker.entries.filter fun e => e.port == p && e.isLiveFlush

theorem TrackerEntry.ends_all : e.ends (fun _ => true) = e.isLiveFlush := by
  unfold TrackerEntry.ends TrackerEntry.isLiveFlush
  rw [TrackerEntry.afterGone_all]
  cases e.work <;> simp

/-- The FLUSHes among the entries left of the tracker are all of them: they read nothing and the queue owes them nothing. -/
theorem State.Linked.filter_live (h : s.Linked) :
    (((s.tracker.entries.filter fun e => !e.isReadM).filter fun e => decide (e.index ∉ s.pwq.entries.flatMap (·.owed))).filter
      fun e => e.port == p && e.ends fun _ => true) = s.liveFlushes p := by
  rw [List.filter_filter, List.filter_filter]
  refine List.filter_congr fun e he => ?_
  rw [TrackerEntry.ends_all]
  cases hw : e.work with
  | flush awaited =>
    have hnot := h.not_owed he (by simp [hw])
    simp [TrackerEntry.isReadM, hw, hnot, -List.mem_flatMap]
  | _ => simp [TrackerEntry.isLiveFlush, hw]

theorem State.Linked.owedEntries_readsLost (h : s.Linked) :
    (s.pwq.entries.flatMap (·.owed)).filterMap s.readsLost.entryAt = s.owedEntries s.pwq.entries := by
  rw [State.owedEntries, List.filterMap_flatMap]
  refine List.flatMap_congr fun q hq => List.filterMap_congr fun i hi => ?_
  obtain ⟨e, he, rfl, hw⟩ := (h.slots q hq).owed i hi
  rw [h.entryAt_of_mem he]
  have hread : e.isReadM = false := by simp [TrackerEntry.isReadM, hw]
  have hmem : e ∈ s.readsLost.tracker.entries := List.mem_filter.mpr ⟨he, by simp [hread]⟩
  cases hf : s.readsLost.entryAt e.index with
  | none => exact absurd (List.find?_eq_none.mp hf e hmem) (by simp)
  | some f =>
    obtain ⟨hindex, hf⟩ := State.entryAt_eq_some hf
    rw [h.index_inj (List.mem_of_mem_filter hf) he hindex]

theorem State.Linked.queueLost_ports (h : s.Linked) :
    s.queueLost.ports = ((s.tracker.entries.filter fun e => !e.isReadM).filter
        fun e => decide (e.index ∉ s.pwq.entries.flatMap (·.owed))).foldl (fun y e => e.endsFlush (fun _ => true) y)
      ((flagAll s.pwq.entries (s.ports.completeAll (s.tracker.entries.filter fun e => e.isReadM) .targetDown)).completeAll
        (s.owedEntries s.pwq.entries) .targetDown) := by
  unfold State.queueLost State.discardPwq
  dsimp only [State.shrinkFlushes]
  rw [shrinkFlushes_eq, show s.readsLost.pwq.entries = s.pwq.entries from rfl, answerOwed_eq _ _ _ h.flatMap_owed_nodup,
    ← h.owedEntries_readsLost]
  rfl

/-- A live FLUSH of a port finds the flag set when the queue has been discarded: it awaits an entry that its port contributed to. -/
theorem State.Linked.flagAtLoss_of_flush (h : s.Linked) (he : e ∈ s.tracker.entries) (hl : e.isLiveFlush = true)
    (hs : (s.ports.get e.port).state ≠ .down) : s.flagAtLoss e.port = true := by
  cases h.tied e he with
  | @flush awaited hw _ hne hq =>
    obtain ⟨slot, rest, rfl⟩ := List.exists_cons_of_ne_nil hne
    obtain ⟨q, hq, -, hcon⟩ := hq slot List.mem_cons_self
    have hany : s.pwq.entries.any (·.contributors.get e.port) = true := List.any_eq_true.mpr ⟨q, hq, hcon⟩
    simp [State.flagAtLoss, hany, hs]
  | issuedX hx =>
    unfold TrackerEntry.isOnX at hx
    unfold TrackerEntry.isLiveFlush at hl
    cases hw : e.work <;> simp_all
  | held hw | ready hw | issuedM hw | owed hw => simp [TrackerEntry.isLiveFlush, hw] at hl

/-- The completions of a port's live FLUSHes: TARGET_ERROR, by the flag. -/
theorem State.Linked.completionsFor_liveFlushes (h : s.Linked) :
    (if (s.ports.get p).state = .up then (s.liveFlushes p).map fun e =>
        completionPacket e.tag (if s.flagAtLoss p = true then .targetError else .ok) none [] else [])
      = s.completionsFor p (s.tracker.entries.filter fun e => e.isLiveFlush) .targetError := by
  unfold State.completionsFor State.liveFlushes
  rw [List.filter_filter]
  split
  · next hup =>
    have hlive : (s.tracker.entries.filter fun e => (e.port == p && !e.orphan) && e.isLiveFlush)
        = s.tracker.entries.filter fun e => e.port == p && e.isLiveFlush :=
      List.filter_congr fun e _ => by cases ho : e.orphan <;> simp [TrackerEntry.isLiveFlush, ho]
    rw [hlive]
    refine List.map_congr_left fun e hmem => ?_
    obtain ⟨he, hb⟩ := List.mem_filter.mp hmem
    obtain ⟨hport, hl⟩ := Bool.and_eq_true_iff.mp hb
    obtain rfl := beq_iff_eq.mp hport
    rw [if_pos (h.flagAtLoss_of_flush he hl (by simp [hup]))]
  · rfl

/-- A port when the loss of M has ended its memory reads and discarded the queue. -/
theorem State.Linked.queueLost_port (h : s.Linked) (hf : s.FlushesApart) :
    s.queueLost.ports.get p = { s.ports.get p with
      postedError := s.flagAtLoss p && (s.liveFlushes p).isEmpty
      barrier := (s.ports.get p).barrier && (s.liveFlushes p).isEmpty
      out := (s.ports.get p).out ++ (s.completionsFor p (s.tracker.entries.filter fun e => e.isReadM) .targetDown
        ++ s.completionsFor p (s.owedEntries s.pwq.entries) .targetDown
        ++ s.completionsFor p (s.tracker.entries.filter fun e => e.isLiveFlush) .targetError) } := by
  obtain ⟨hapart, -, -⟩ := hf
  have hflagged : (flagAll s.pwq.entries (s.ports.completeAll (s.tracker.entries.filter fun e => e.isReadM) .targetDown)).get p
      = { s.ports.get p with
        postedError := s.flagAtLoss p
        out := (s.ports.get p).out ++ s.completionsFor p (s.tracker.entries.filter fun e => e.isReadM) .targetDown } := by
    rw [flagAll_port, State.completeAll_port]
    rfl
  have hanswered := State.completeAll_port
    { s with ports := flagAll s.pwq.entries (s.ports.completeAll (s.tracker.entries.filter fun e => e.isReadM) .targetDown) }
    (s.owedEntries s.pwq.entries) .targetDown p
  dsimp only at hanswered
  rw [State.completionsFor_congr (s := s) (q := p) (by rw [hflagged]), hflagged] at hanswered
  rw [h.queueLost_ports, foldl_endsFlush_port ((hapart.filter _).filter _), h.filter_live, hanswered]
  dsimp only
  rw [h.completionsFor_liveFlushes]
  simp only [List.append_assoc]

theorem State.flagAtLoss_iff : s.flagAtLoss p = true ↔ (s.ports.get p).postedError = true
    ∨ (s.ports.get p).state ≠ .down ∧ ∃ q ∈ s.pwq.entries, q.contributors.get p = true := by
  simp only [State.flagAtLoss, Bool.or_eq_true, Bool.and_eq_true, bne_iff_ne, List.any_eq_true]

theorem State.mem_liveFlushes : e ∈ s.liveFlushes p ↔ e ∈ s.tracker.entries ∧ e.port = p ∧ e.isLiveFlush = true := by
  rw [State.liveFlushes, List.mem_filter, Bool.and_eq_true, beq_iff_eq]

/-- Every ACK write that waits for the queue is among those that the queue owes. -/
theorem State.Linked.mem_owedEntries_all (h : s.Linked) (he : e ∈ s.tracker.entries) {slot : Fin 16} (hw : e.work = .ackM slot) :
    e ∈ s.owedEntries s.pwq.entries := by
  obtain ⟨q, hq, hi⟩ := List.mem_flatMap.mp (h.owed_of_ack he hw)
  exact List.mem_flatMap.mpr ⟨q, hq, List.mem_filterMap.mpr ⟨_, hi, h.entryAt_of_mem he⟩⟩

/-! ### The event -/

theorem State.Linked.loseM_records (h : s.Linked) (hf : s.FlushesApart) :
    s.loseM.2 = (if s.pwq.entries = [] then []
      else [{ kind := .pwqDiscard, target := some .m, count := some s.pwq.entries.length }]) ++ s.lostHeads .waitPwq := by
  rw [State.loseM_eq, State.endWaitingAll_records _ nodup_ports, State.lostHeads_eq]
  refine congrArg₂ (· ++ ·) ?_ (List.filterMap_congr fun p _ => ?_)
  · exact if_congr List.isEmpty_iff rfl rfl
  · dsimp only
    rw [h.queueLost_port hf]
    rfl

theorem State.loseM_port : s.loseM.1.ports.get p = (s.queueLost.ports.get p).loseHead .waitPwq := by
  rw [State.loseM_eq, State.endWaitingAll_port _ nodup_ports, if_pos (mem_ports p)]

/-- A port is sent the completions that the loss of a target is said to produce for it. -/
theorem State.mem_out_of_headEndsAtLoss {t : State} {g : Progress} {completions : List Packet} {records : List ErrorRecord}
    {pkt : Packet} (h : s.HeadEndsAtLoss t g p completions records) (hp : pkt ∈ completions) : pkt ∈ (t.ports.get p).out := by
  obtain ⟨hends, hstays⟩ := h
  by_cases hw : s.HeadWaits g p
  · obtain ⟨-, hne⟩ := id hw
    obtain ⟨r, rest, hi⟩ := List.exists_cons_of_ne_nil hne
    rw [hends hw r (by simp [hi])]
    simp [hp]
  · rw [hstays hw]
    simp [hp]

end

/-- Settles O7: the reads complete, the queue is discarded, the waiting heads end in the order of the ports, then the credits and
NOTICEs go out. -/
theorem lostMemoryLinkEndsMemoryWork : Obligations.LostMemoryLinkEndsMemoryWork := by
  refine ⟨fun s hl hc hw => ?_, fun s hl => if_pos hl⟩
  intro records
  obtain ⟨h, hf⟩ := State.workTied_iff.mp hw
  have hexec : exec .mLinkLost s = .next (Event.close s.loseM) := if_neg (by simp [hl])
  obtain ⟨x, hx⟩ := State.endWaitingAll_eq .waitPwq [.u0, .u1, .u2, .u3] (s.queueLost, s.readsLost.discardPwq.2)
  rw [← State.loseM_eq, State.queueLost_eq, h.queueLost_tracker] at hx
  have hrecords : s.loseM.2 = records := h.loseM_records hf
  have hlog : s.loseM.1.log = s.log := by rw [hx]
  obtain ⟨fpending, fmap, fwindow, fpwq, ftracker, fsched, fsweep, fext, fengine, fstamp⟩ := Event.close_frame s.loseM
  rw [hx] at fpending fmap fwindow fpwq ftracker fsched fsweep fext fengine fstamp
  have hport (p : Port) := hc.close_loseHead hlog
    (State.loseM_port.trans (congrArg (PortBlock.loseHead · .waitPwq) (h.queueLost_port hf (p := p))))
  simp only [hrecords] at hport
  refine ⟨_, hexec, fsched, fpwq, ftracker, fsweep, fext, fmap, fwindow, fengine, fstamp, fpending, ?log,
    fun e he hkind ho hup => ?answered, fun p => ⟨_, .refl _, (hport p).1⟩, fun p => ?flags⟩
  case log => rw [Event.close_log, State.handAll_log, hlog, hrecords]
  case answered =>
    refine State.mem_out_of_headEndsAtLoss (hport e.port).1 (List.mem_append_left _ (List.mem_append.mpr ?_))
    obtain hread | ⟨slot, hack⟩ := hkind
    · exact .inl (State.mem_completionsFor (List.mem_filter.mpr ⟨he, hread⟩) ho hup)
    · exact .inr (State.mem_completionsFor (h.mem_owedEntries_all he hack) ho hup)
  case flags =>
    intro b b' flagged
    obtain ⟨hends, hbarrier, hflag⟩ := hport p
    refine ⟨fun hnone => ?quiet, fun e he hp hlive => ?reported⟩
    case quiet =>
      have hempty : s.liveFlushes p = [] := List.eq_nil_iff_forall_not_mem.mpr fun e hmem => by
        obtain ⟨he, hp, hlive⟩ := State.mem_liveFlushes.mp hmem
        rw [hnone e he hp] at hlive
        cases hlive
      rw [hempty, List.isEmpty_nil, Bool.and_true] at hbarrier hflag
      exact ⟨hbarrier, hflag.trans (or_congr State.flagAtLoss_iff Iff.rfl)⟩
    case reported =>
      have hmem : e ∈ s.liveFlushes p := State.mem_liveFlushes.mpr ⟨he, hp, hlive⟩
      have hsome : (s.liveFlushes p).isEmpty = false := by simpa using List.ne_nil_of_mem hmem
      rw [hsome, Bool.and_false] at hbarrier hflag
      refine ⟨hbarrier, hflag.trans (by simp), fun hup => ?_⟩
      subst hp
      have ho : e.orphan = false := by
        rw [TrackerEntry.isLiveFlush, Bool.and_eq_true, Bool.not_eq_true'] at hlive
        exact hlive.1
      exact State.mem_out_of_headEndsAtLoss hends (List.mem_append_right _
        (State.mem_completionsFor (List.mem_filter.mpr ⟨he, hlive⟩) ho hup))

end Sys2Proof.Machine
end
